-- ==== Sys2Proof/Word.lean ====
section
/-! DEFINITION. The words of the block and its smallest named sets (00_scope.md R6, R8; 10_state.md R21). -/

namespace Sys2Proof

/-- A clock word: `TIME_WIDTH` = 32 bits, unsigned milliseconds (R6). -/
abbrev Time := BitVec 32

/-- A color word: `COLOR_WIDTH` = 24 bits (R6, R55). -/
abbrev Color := BitVec 24

/-- A phase code: `PHASE_WIDTH` = 4 bits (R6, R21). -/
abbrev PhaseCode := BitVec 4

/-- A tick selector `SEL[6:0]` (R50). -/
abbrev Selector := BitVec 7

/-- Eight bits: a color channel (R55), or a selector laid out as one byte. -/
abbrev Byte := BitVec 8

/-- An electrical level: `0` is low, `1` is high (R8). -/
inductive Level where
  | low
  | high
  deriving DecidableEq, Repr, Inhabited

/-- One of the `NUM_SLOTS = 2` slot controllers, slot 0 and slot 1 (R4). -/
inductive SlotId where
  | slot0
  | slot1
  deriving DecidableEq, Repr, Inhabited

/-- The slot that is not `c`. -/
def SlotId.other : SlotId → SlotId
  | .slot0 => .slot1
  | .slot1 => .slot0

/-- The ten named phases, in the order of their codes (R21). -/
inductive Phase where
  | waitLow
  | waitHigh
  | waitLowAgain
  | seqBoth1
  | seqBatteryOnly
  | seqBoth2
  | seqBusOnly
  | waitHighAgain
  | faultIndicate
  | timeoutIndicate
  deriving DecidableEq, Repr, Inhabited

/-- The two error classes; "no other error classes exist in this core" (R110). -/
inductive ErrorClass where
  | fault
  | timeout
  deriving DecidableEq, Repr, Inhabited

end Sys2Proof
end

