-- ==== Sys2Proof/Syntax.lean ====
section
/-! DEFINITION. The fifteen rows of the selector map (30_encoding.md R53; spec/opcode_table.json), one constructor each. -/

namespace Sys2Proof

/-- What a slot's step runs. A row has no operand; where the row's mask leaves selector bits free, the constructor keeps
the bits it was decoded from, so that no bit of a selector is dropped (DESIGN CHOICE, log entry 8, safe: no meaning reads
them). `f`, `t` and `p` are the selector's F, T and P bits (R51). -/
inductive Instr where
  /-- `RESET`, pattern `1 x x xxxx` (R130). -/
  | reset (f t : Bool) (p : PhaseCode)
  /-- `FAULT_PREEMPT`, pattern `0 1 x xxxx` (R63). -/
  | faultPreempt (t : Bool) (p : PhaseCode)
  /-- `GLOBAL_TIMEOUT`, pattern `0 0 1 xxxx` (R64). -/
  | globalTimeout (p : PhaseCode)
  /-- `PH_WAIT_LOW`, pattern `0 0 0 0000` (R70). -/
  | phWaitLow
  /-- `PH_WAIT_HIGH`, pattern `0 0 0 0001` (R71). -/
  | phWaitHigh
  /-- `PH_WAIT_LOW_AGAIN`, pattern `0 0 0 0010` (R72). -/
  | phWaitLowAgain
  /-- `PH_SEQ_BOTH_1`, pattern `0 0 0 0011` (R80). -/
  | phSeqBoth1
  /-- `PH_SEQ_BATTERY_ONLY`, pattern `0 0 0 0100` (R81). -/
  | phSeqBatteryOnly
  /-- `PH_SEQ_BOTH_2`, pattern `0 0 0 0101` (R82). -/
  | phSeqBoth2
  /-- `PH_SEQ_BUS_ONLY`, pattern `0 0 0 0110` (R83). -/
  | phSeqBusOnly
  /-- `PH_WAIT_HIGH_AGAIN`, pattern `0 0 0 0111` (R73). -/
  | phWaitHighAgain
  /-- `PH_FAULT_INDICATE`, pattern `0 0 0 1000` (R90). -/
  | phFaultIndicate
  /-- `PH_TIMEOUT_INDICATE`, pattern `0 0 0 1001` (R91). -/
  | phTimeoutIndicate
  /-- `RSV_PHASE_A_B`, pattern `0 0 0 101x`; `lowBit` is `P[0]` (R93). -/
  | rsvPhaseAB (lowBit : Bool)
  /-- `RSV_PHASE_C_F`, pattern `0 0 0 11xx`; `lowBits` is `P[1:0]` (R93). -/
  | rsvPhaseCF (lowBits : BitVec 2)
  deriving DecidableEq, Repr

end Sys2Proof
end

