-- ==== Sys2Proof/WellFormed.lean ====
section
/-! DEFINITION. Which instructions a selector can name that a slot's step assembles (30_encoding.md R51, R52, R54). -/

namespace Sys2Proof

/-- "`T` is 0 whenever `P = 0b0000`" (R52): a timeout bit beside the phase code of `WAIT_LOW` cannot be assembled (R54 b). -/
def timeoutBitFits (t : Bool) (p : PhaseCode) : Bool := !t || p != 0b0000#4

/-- The instruction's selector can be assembled by R51. -/
def Instr.wf : Instr → Bool
  | .reset _ t p => timeoutBitFits t p
  | .faultPreempt t p => timeoutBitFits t p
  | .globalTimeout p => timeoutBitFits true p
  | .phWaitLow => true
  | .phWaitHigh => true
  | .phWaitLowAgain => true
  | .phSeqBoth1 => true
  | .phSeqBatteryOnly => true
  | .phSeqBoth2 => true
  | .phSeqBusOnly => true
  | .phWaitHighAgain => true
  | .phFaultIndicate => true
  | .phTimeoutIndicate => true
  | .rsvPhaseAB _ => true
  | .rsvPhaseCF _ => true

end Sys2Proof
end

