-- ==== Sys2Proof/Decode.lean ====
section
/-! DEFINITION. The encodings of 30_encoding.md: the phase code (R21), the selector map (R53) as a table and as a total
decoder, the encoder written from the same patterns, and the byte form of a selector. -/

namespace Sys2Proof

/-! ### The phase code (R21) -/

/-- The code of a named phase (the table of R21). -/
def Phase.code : Phase → PhaseCode
  | .waitLow         => 0b0000#4
  | .waitHigh        => 0b0001#4
  | .waitLowAgain    => 0b0010#4
  | .seqBoth1        => 0b0011#4
  | .seqBatteryOnly  => 0b0100#4
  | .seqBoth2        => 0b0101#4
  | .seqBusOnly      => 0b0110#4
  | .waitHighAgain   => 0b0111#4
  | .faultIndicate   => 0b1000#4
  | .timeoutIndicate => 0b1001#4

/-- The phase a code names; the reserved codes 10 to 15 name none (R21, R54 a). -/
def Phase.ofCode (c : PhaseCode) : Option Phase :=
  if c = 0b0000#4 then some .waitLow
  else if c = 0b0001#4 then some .waitHigh
  else if c = 0b0010#4 then some .waitLowAgain
  else if c = 0b0011#4 then some .seqBoth1
  else if c = 0b0100#4 then some .seqBatteryOnly
  else if c = 0b0101#4 then some .seqBoth2
  else if c = 0b0110#4 then some .seqBusOnly
  else if c = 0b0111#4 then some .waitHighAgain
  else if c = 0b1000#4 then some .faultIndicate
  else if c = 0b1001#4 then some .timeoutIndicate
  else none

/-! ### The selector (R50, R51) -/

/-- `{R, F, T, P[3:0]}`: R is bit 6, F bit 5, T bit 4, P bits 3:0 (R50). -/
def packSelector (r f t : Bool) (p : PhaseCode) : Selector :=
  BitVec.ofBool r ++ BitVec.ofBool f ++ BitVec.ofBool t ++ p

/-- Bit 6 of a selector. -/
def selR (sel : Selector) : Bool := sel.getLsbD 6

/-- Bit 5 of a selector. -/
def selF (sel : Selector) : Bool := sel.getLsbD 5

/-- Bit 4 of a selector. -/
def selT (sel : Selector) : Bool := sel.getLsbD 4

/-- Bits 3:0 of a selector. -/
def selP (sel : Selector) : PhaseCode := sel.extractLsb' 0 4

/-! ### The selector map as a table (R53) -/

/-- One row of the map: a selector matches it when `sel &&& mask = pattern`. -/
structure SelectorRow where
  mnemonic : String
  pattern  : Selector
  mask     : Selector
  deriving DecidableEq, Repr

/-- The fifteen rows of R53, in their order, with the table's `match` and `mask`. -/
def selectorTable : List SelectorRow :=
  [⟨"RESET", 0x40, 0x40⟩, ⟨"FAULT_PREEMPT", 0x20, 0x60⟩, ⟨"GLOBAL_TIMEOUT", 0x10, 0x70⟩,
   ⟨"PH_WAIT_LOW", 0x00, 0x7F⟩, ⟨"PH_WAIT_HIGH", 0x01, 0x7F⟩, ⟨"PH_WAIT_LOW_AGAIN", 0x02, 0x7F⟩] ++
  [⟨"PH_SEQ_BOTH_1", 0x03, 0x7F⟩, ⟨"PH_SEQ_BATTERY_ONLY", 0x04, 0x7F⟩, ⟨"PH_SEQ_BOTH_2", 0x05, 0x7F⟩,
   ⟨"PH_SEQ_BUS_ONLY", 0x06, 0x7F⟩, ⟨"PH_WAIT_HIGH_AGAIN", 0x07, 0x7F⟩] ++
  [⟨"PH_FAULT_INDICATE", 0x08, 0x7F⟩, ⟨"PH_TIMEOUT_INDICATE", 0x09, 0x7F⟩,
   ⟨"RSV_PHASE_A_B", 0x0A, 0x7E⟩, ⟨"RSV_PHASE_C_F", 0x0C, 0x7C⟩]

/-- A selector matches a row (R53). -/
def SelectorRow.hits (row : SelectorRow) (sel : Selector) : Bool := sel &&& row.mask == row.pattern

/-- The mnemonic of an instruction, as the table spells it. -/
def Instr.mnemonic : Instr → String
  | .reset _ _ _ => "RESET"
  | .faultPreempt _ _ => "FAULT_PREEMPT"
  | .globalTimeout _ => "GLOBAL_TIMEOUT"
  | .phWaitLow => "PH_WAIT_LOW"
  | .phWaitHigh => "PH_WAIT_HIGH"
  | .phWaitLowAgain => "PH_WAIT_LOW_AGAIN"
  | .phSeqBoth1 => "PH_SEQ_BOTH_1"
  | .phSeqBatteryOnly => "PH_SEQ_BATTERY_ONLY"
  | .phSeqBoth2 => "PH_SEQ_BOTH_2"
  | .phSeqBusOnly => "PH_SEQ_BUS_ONLY"
  | .phWaitHighAgain => "PH_WAIT_HIGH_AGAIN"
  | .phFaultIndicate => "PH_FAULT_INDICATE"
  | .phTimeoutIndicate => "PH_TIMEOUT_INDICATE"
  | .rsvPhaseAB _ => "RSV_PHASE_A_B"
  | .rsvPhaseCF _ => "RSV_PHASE_C_F"

/-! ### The decoder (R53) -/

/-- The row of a selector whose R, F and T bits are 0: phase code `p` alone decides. -/
def decodePhaseRow (p : PhaseCode) : Instr :=
  if p = 0b0000#4 then .phWaitLow
  else if p = 0b0001#4 then .phWaitHigh
  else if p = 0b0010#4 then .phWaitLowAgain
  else if p = 0b0011#4 then .phSeqBoth1
  else if p = 0b0100#4 then .phSeqBatteryOnly
  else if p = 0b0101#4 then .phSeqBoth2
  else if p = 0b0110#4 then .phSeqBusOnly
  else if p = 0b0111#4 then .phWaitHighAgain
  else if p = 0b1000#4 then .phFaultIndicate
  else if p = 0b1001#4 then .phTimeoutIndicate
  else if p.extractLsb' 1 3 = 0b101#3 then .rsvPhaseAB (p.getLsbD 0)
  else .rsvPhaseCF (p.extractLsb' 0 2)

/-- "A decoder reads `SEL` and picks exactly one row, trying them in this order" (R53): reset, fault preemption, global
timeout, then the phase rows. Total: the rows cover all 128 selectors. -/
def decodeSelector (sel : Selector) : Instr :=
  if selR sel then .reset (selF sel) (selT sel) (selP sel)
  else if selF sel then .faultPreempt (selT sel) (selP sel)
  else if selT sel then .globalTimeout (selP sel)
  else decodePhaseRow (selP sel)

/-! ### A selector as bytes -/

/-- Why bytes are no selector. -/
inductive DecodeError where
  /-- There is no byte to read. -/
  | noByte
  /-- Bit 7 is set: a selector has 7 bits (R50), so no row has this byte. -/
  | notASelector
  deriving DecidableEq, Repr

/-- Decodes one instruction from bytes and gives the bytes after it. A selector takes one byte with bit 7 clear (DESIGN
CHOICE, log entry 8, safe: the selector is not stored anywhere, R51). -/
def decode : List Byte → Except DecodeError (Instr × List Byte)
  | [] => .error .noByte
  | b :: rest =>
    if b.getLsbD 7 then .error .notASelector
    else .ok (decodeSelector (b.extractLsb' 0 7), rest)

/-! ### The encoder -/

/-- The selector of an instruction, from the patterns of R53. -/
def encodeSelector : Instr → Selector
  | .reset f t p => packSelector true f t p
  | .faultPreempt t p => packSelector false true t p
  | .globalTimeout p => packSelector false false true p
  | .phWaitLow => 0b0000000#7
  | .phWaitHigh => 0b0000001#7
  | .phWaitLowAgain => 0b0000010#7
  | .phSeqBoth1 => 0b0000011#7
  | .phSeqBatteryOnly => 0b0000100#7
  | .phSeqBoth2 => 0b0000101#7
  | .phSeqBusOnly => 0b0000110#7
  | .phWaitHighAgain => 0b0000111#7
  | .phFaultIndicate => 0b0001000#7
  | .phTimeoutIndicate => 0b0001001#7
  | .rsvPhaseAB b => 0b000101#6 ++ BitVec.ofBool b
  | .rsvPhaseCF b => 0b00011#5 ++ b

/-- The byte of an instruction: its selector, bit 7 clear. -/
def encode (i : Instr) : List Byte := [0b0#1 ++ encodeSelector i]

/-! ### The table's numbering -/

/-- The bytes of a word of `n` bytes, the byte of bits 7:0 first. -/
def wordBytes : Nat → Nat → List Byte
  | 0, _ => []
  | n + 1, w => BitVec.ofNat 8 w :: wordBytes n (w / 2 ^ 8)

/-- The instruction the decoder reads from a selector whose bits are `w`, `nbits` of them as spec/opcode_table.json numbers
them. A word with a bit above a selector's 7 is no instruction. -/
def decodeTableWord (nbits w : Nat) : Option Instr :=
  if 2 ^ 7 ≤ w then none
  else
    match decode (wordBytes ((nbits + 7) / 8) w) with
    | .ok (i, _) => some i
    | .error _ => none

end Sys2Proof
end

