-- ==== Sys2Proof/Config.lean ====
section
/-! DEFINITION. What is fixed for one machine: the timing constants (00_scope.md R5), the word OFF (44_status_colors.md
R101), and the parameters the spec leaves open (R7), as free constants that no proof can evaluate. -/

namespace Sys2Proof

/-- `SEQ_DWELL` = 500 ms, the dwell of each `SEQ_*` phase (R5). -/
abbrev Config.seqDwell : Nat := 500

/-- `INDICATE_DWELL` = 2000 ms, the dwell of both indicate phases (R5). -/
abbrev Config.indicateDwell : Nat := 2000

/-- `GLOBAL_TIMEOUT` = 5000 ms, the time limit in every phase except `WAIT_LOW` (R5). -/
abbrev Config.globalTimeout : Nat := 5000

/-- `FLASH_PERIOD` = 200 ms (R5). -/
abbrev Config.flashPeriod : Nat := 200

/-- `FLASH_THRESHOLD` = 100 (R5). -/
abbrev Config.flashThreshold : Nat := 100

/-- The host's limit on the gap between two consecutive ticks: it stays below `2^32 - 5000` ms (R136, decision D18). -/
abbrev Config.tickGapLimit : Nat := 2 ^ 32 - 5000

/-- `OFF = 0x000000`, an indicator showing no light (R101).
PRESUMED by the spec itself ("from general knowledge, not in source"); log entry 9, unsafe. -/
abbrev Config.off : Color := 0x000000#24

/-- The pull-up setting of an input pin (R132, decision D17). -/
inductive PullUp where
  | enabled
  | disabled
  deriving DecidableEq, Repr, Inhabited

/-- What `PIN_MAP` gives for one slot: the pins of its two inputs and two outputs, the pull-up setting of each input, and
the light-sink position of each indicator (R42, decision D17). No rule reads it. -/
structure SlotPins where
  presenceN     : Nat
  faultN        : Nat
  batEn         : Nat
  busEn         : Nat
  presencePull  : PullUp
  faultPull     : PullUp
  sinkPosition0 : Nat
  sinkPosition1 : Nat
  deriving DecidableEq, Repr, Inhabited

/-- `PIN_MAP`, one entry per slot (R7, R42). -/
structure PinMap where
  slot0 : SlotPins
  slot1 : SlotPins
  deriving DecidableEq, Repr, Inhabited

/-- The read-only configuration that the block's state holds (R20, R31): the open parameters of R7. "A model takes each
one as an argument": every statement over all states is a statement over all configurations. -/
structure Configuration where
  colorRun1    : Color
  colorRun2    : Color
  colorFail    : Color
  pinMap       : PinMap
  tickInterval : Nat
  deriving DecidableEq, Repr, Inhabited

/-- `COLOR_RUN1`, left open (R7, decision D16). DESIGN CHOICE: a free constant, log entry 2, safe. -/
opaque Config.colorRun1 : Color

/-- `COLOR_RUN2`, left open (R7, decision D16). DESIGN CHOICE: a free constant, log entry 2, safe. -/
opaque Config.colorRun2 : Color

/-- `COLOR_FAIL`, left open (R7, decision D16). DESIGN CHOICE: a free constant, log entry 2, safe. -/
opaque Config.colorFail : Color

/-- `PIN_MAP`, left open (R7, decision D17). DESIGN CHOICE: a free constant, log entry 2, safe. -/
opaque Config.pinMap : PinMap

/-- `TICK_INTERVAL`, left open (R7, decision D18). DESIGN CHOICE: a free constant, log entry 2, safe. -/
opaque Config.tickInterval : Nat

/-- The configuration of the machine that starts at reset. -/
def Config.built : Configuration where
  colorRun1    := Config.colorRun1
  colorRun2    := Config.colorRun2
  colorFail    := Config.colorFail
  pinMap       := Config.pinMap
  tickInterval := Config.tickInterval

end Sys2Proof
end

