-- ==== Sys2Proof/Machine/State.lean ====
section
/-! DEFINITION. The state of the block (10_state.md R20 to R34), the step's own samples (R43), the outside world as plain
data (R28, R121, R133), the reasons a step can stop, and the state after reset (70_reset_and_hazards.md R130, R131). -/

namespace Sys2Proof.Machine

/-- Everything one slot controller holds: `S[s]` and `O[s]` (R20). -/
structure Slot where
  /-- `S[s].phase` (R21). -/
  phase   : PhaseCode
  /-- `S[s].entered` (R23). -/
  entered : Time
  /-- `O[s].bat_en`, true for 1, the battery rail enabled (R24). -/
  batEn   : Bool
  /-- `O[s].bus_en`, true for 1, the bus rail enabled (R25). -/
  busEn   : Bool
  /-- `O[s].color0` (R26). -/
  color0  : Color
  /-- `O[s].color1` (R26). -/
  color1  : Color
  deriving DecidableEq, Repr

/-- `FRAME[0..3]`, four color words, `w0` first (R27, R56). -/
structure Frame where
  w0 : Color
  w1 : Color
  w2 : Color
  w3 : Color
  deriving DecidableEq, Repr

/-- The two input levels of one slot (R28). -/
structure PinLevels where
  presenceN : Level
  faultN    : Level
  deriving DecidableEq, Repr

/-- `IN.x`: the inputs as sampled for the step being run (R9, R43), and whether the reset event is being applied, which is
selector bit R (R51). -/
structure Inputs where
  reset : Bool
  now   : Time
  pins0 : PinLevels
  pins1 : PinLevels
  deriving DecidableEq, Repr

/-- The status light sink at its interface (R121): the frame it was last handed, and how often `display` was called. -/
structure Sink where
  shown   : Option Frame
  strobes : Nat
  deriving DecidableEq, Repr

/-- One moment of the block's input ports (R28): the two events, the clock and the levels. `now` is the clock in true
milliseconds; the port carries its 32-bit word (R6, R136; log entry 5). -/
structure Moment where
  reset : Bool
  tick  : Bool
  now   : Nat
  pins0 : PinLevels
  pins1 : PinLevels
  deriving DecidableEq, Repr

/-- What the outside world may do next. The last two are refused (log entry 14). -/
inductive Event where
  /-- The input ports at one moment (R28, R140). -/
  | moment (m : Moment)
  /-- A pin read or write fails, which is "out of scope" (R110). -/
  | portFailure
  /-- The bench console tries to write the phase, the timer, the outputs or the timing (R124, R140). -/
  | consoleWrite
  deriving DecidableEq, Repr

/-- The state of the machine. -/
structure State where
  /-- `S[0]` and `O[0]` (R20). -/
  slot0     : Slot
  /-- `S[1]` and `O[1]` (R20). -/
  slot1     : Slot
  /-- `FRAME` (R27). -/
  frame     : Frame
  /-- `FAULT_MARK`, of the model only (R34). -/
  faultMark : Bool
  /-- The read-only configuration (R31). -/
  cfg       : Configuration
  /-- The samples `IN.x` of the step (R43). The model's own field, log entry 3. -/
  inp       : Inputs
  /-- The operand `s` of the SLOT_STEP being run (R61). The model's own field, log entry 3. -/
  cur       : SlotId
  /-- The status light sink (R121). The outside world's, log entry 4. -/
  sink      : Sink
  /-- True time of the last clock sample, for the clock contract (R136). The outside world's, log entry 5. -/
  lastNow   : Nat
  /-- True time of the last tick, none before the first, for the tick-gap duty (R136). The outside world's, log entry 5. -/
  lastTick  : Option Nat
  /-- The events to come, next first (R133). The outside world's, log entry 6. -/
  queue     : List Event
  deriving DecidableEq, Repr

/-- Nothing in this block stops the machine: `ILLEGAL_PHASE` sets `FAULT_MARK` and the step goes on (R60, R93), and both
error classes are phases (R110). So no constructor: a proof that a step faulted is a contradiction. Log entry 7, safe. -/
inductive Fault where
  deriving DecidableEq, Repr

/-- Why a stimulus or an instruction is refused. -/
inductive Refusal where
  /-- Raised by exec's arm of an instruction with no meaning yet; no arm raises it. Safe. -/
  | notModelled (mnemonic : String)
  /-- Raised by the event step: a tick or a reset whose clock is behind the last sample in true time, "outside the contract,
  and a model refuses the run" (R136, decision D19). Safe. -/
  | clockDecreased
  /-- Raised by the event step: a tick `2^32 - 5000` ms or more after the tick before it (R136, decision D18;
  93_implementation_defined.md, clock wraparound policy). Safe. -/
  | tickGapTooLong
  /-- Raised by the event step on a failed pin access (93_implementation_defined.md, R110). Safe. -/
  | portFailure
  /-- Raised by the event step on a console write (93_implementation_defined.md, R124, R140). Safe. -/
  | consoleWrite
  deriving DecidableEq, Repr

/-- A slot right after a RESET that sampled `now`: `WAIT_LOW` (code 0), both rails off, both colors `OFF` (R130, R131). -/
def Slot.afterReset (now : Time) : Slot where
  phase   := 0b0000#4
  entered := now
  batEn   := false
  busEn   := false
  color0  := Config.off
  color1  := Config.off

/-- The frame register after RESET: four `OFF` words (R130, R131). -/
def Frame.allOff : Frame where
  w0 := Config.off
  w1 := Config.off
  w2 := Config.off
  w3 := Config.off

/-- Idle levels: not present, not faulted (R57). -/
def PinLevels.idle : PinLevels where
  presenceN := .high
  faultN    := .high

/-- The machine right after the first RESET (R130, R131). The reset's `now` sample is 0 (DESIGN CHOICE, log entry 1, unsafe);
the model's own fields are idle and no event is pending (DESIGN CHOICE, log entries 3, 4 and 6), and
no tick has come (log entry 5). -/
def State.reset : State where
  slot0     := Slot.afterReset 0#32
  slot1     := Slot.afterReset 0#32
  frame     := Frame.allOff
  faultMark := false
  cfg       := Config.built
  inp       := { reset := false, now := 0#32, pins0 := PinLevels.idle, pins1 := PinLevels.idle }
  cur       := .slot0
  sink      := { shown := none, strobes := 0 }
  lastNow   := 0
  lastTick  := none
  queue     := []

end Sys2Proof.Machine
end

