-- ==== Sys2Proof/Machine/Operands.lean ====
section
/-! DEFINITION. The operands of the slot rules: reading and writing `S[s]` and `O[s]`, and reading the samples `IN.x`
(00_scope.md R9; 20_memory.md R43). -/

namespace Sys2Proof.Machine

/-- `S[s]` and `O[s]` (R9). -/
def State.slot (s : State) (c : SlotId) : Slot :=
  match c with
  | .slot0 => s.slot0
  | .slot1 => s.slot1

/-- Writes `S[s]` and `O[s]` together (R9, R45). -/
def State.setSlot (s : State) (c : SlotId) (v : Slot) : State :=
  match c with
  | .slot0 => { s with slot0 := v }
  | .slot1 => { s with slot1 := v }

/-- The levels of slot `c` in a set of samples. -/
def Inputs.pins (i : Inputs) (c : SlotId) : PinLevels :=
  match c with
  | .slot0 => i.pins0
  | .slot1 => i.pins1

/-- The levels of slot `c` at a moment. -/
def Moment.pins (m : Moment) (c : SlotId) : PinLevels :=
  match c with
  | .slot0 => m.pins0
  | .slot1 => m.pins1

/-- `IN.presence_n[s]`, the raw level with no inversion (R43, R75). -/
def State.presence (s : State) (c : SlotId) : Level := (s.inp.pins c).presenceN

/-- `IN.fault_n[s]` (R43). -/
def State.faultLine (s : State) (c : SlotId) : Level := (s.inp.pins c).faultN

/-- The slot whose step is running. -/
def State.curSlot (s : State) : Slot := s.slot s.cur

/-- Makes `c` the slot whose step runs next (the operand of SLOT_STEP, R61). -/
def State.atSlot (s : State) (c : SlotId) : State := { s with cur := c }

/-- The clock port's word at true time `t`: 32 bits, so it wraps (R6, R28, R136). -/
def clockWord (t : Nat) : Time := BitVec.ofNat 32 t

/-- Samples the input ports for a step: `now` once, each level once (R43, R60). The true time is kept for the clock
contract, and a tick's as the last tick's (R136). -/
def State.sample (s : State) (m : Moment) : State :=
  { s with
    inp := { reset := m.reset, now := clockWord m.now, pins0 := m.pins0, pins1 := m.pins1 }
    lastNow := m.now
    lastTick := if m.reset then s.lastTick else some m.now }

end Sys2Proof.Machine
end

