-- ==== Sys2Proof/Machine/Flags.lean ====
section
/-! DEFINITION. The condition signals of 10_state.md R30, the elapsed time (R10, R62) and the tick selector (30_encoding.md
R51). The block stores none of them. -/

namespace Sys2Proof.Machine

/-- `a ⊖ b = (a - b) mod 2^32` (R10). -/
def timeSub (a b : Time) : Time := a - b

/-- `EL(s) = IN.now ⊖ S[s].entered` (R30, R62). -/
def elapsed (s : State) (c : SlotId) : Time := timeSub s.inp.now (s.slot c).entered

/-- `x ≥ K`, unsigned (R10). -/
def atLeast (x : Time) (k : Nat) : Bool := decide (k ≤ x.toNat)

/-- `FAULTED(s)`: the fault line reads low (R30; active low, R28). -/
def faulted (s : State) (c : SlotId) : Bool := decide (s.faultLine c = .low)

/-- `PRES_LOW(s)` (R30). -/
def presLow (s : State) (c : SlotId) : Bool := decide (s.presence c = .low)

/-- `PRES_HIGH(s)` (R30). -/
def presHigh (s : State) (c : SlotId) : Bool := decide (s.presence c = .high)

/-- `TIMEOUT_COND(s)` (R30, R113). -/
def timeoutCond (s : State) (c : SlotId) : Bool :=
  (s.slot c).phase != Phase.waitLow.code && atLeast (elapsed s c) Config.globalTimeout

/-- `DWELL_DONE(s, D)` (R30). -/
def dwellDone (s : State) (c : SlotId) (d : Nat) : Bool := atLeast (elapsed s c) d

/-- `FLASH_LIT` at clock word `t`: `(t mod 200) ≤ 100` (R30, R102). -/
def flashLit (t : Time) : Bool := decide (t.toNat % Config.flashPeriod ≤ Config.flashThreshold)

/-- The selector of slot `c`, assembled from its state and the samples (R51, R52). -/
def selector (s : State) (c : SlotId) : Selector :=
  packSelector s.inp.reset (faulted s c) (timeoutCond s c) (s.slot c).phase

end Sys2Proof.Machine
end

