-- ==== Sys2Proof/Machine/StatusColors.lean ====
section
/-! DEFINITION. The color word (30_encoding.md R55), the flash function and the output table (44_status_colors.md R100 to
R105), and the frame (R56). -/

namespace Sys2Proof.Machine

/-- A color word from its channels: `{R8, G8, B8}`, red most significant (R44, R55). -/
def packColor (red green blue : Byte) : Color := red ++ green ++ blue

/-- The red channel, bits 23:16 (R55). -/
def redOf (c : Color) : Byte := c.extractLsb' 16 8

/-- The green channel, bits 15:8 (R55). -/
def greenOf (c : Color) : Byte := c.extractLsb' 8 8

/-- The blue channel, bits 7:0 (R55). -/
def blueOf (c : Color) : Byte := c.extractLsb' 0 8

/-- `FL(t)`, the color of a flashing FAIL indicator at clock word `t` (R102). Not anchored to the phase entry. -/
def flash (cfg : Configuration) (t : Time) : Color :=
  if flashLit t then cfg.colorFail else Config.off

/-- One row of the output table: `(bat, bus, c0, c1)` (R103). -/
structure OutRow where
  bat : Bool
  bus : Bool
  c0  : Color
  c1  : Color
  deriving DecidableEq, Repr

/-- `OUT(p, t)`, one row per named phase (R103). It is undefined for the codes 10 to 15 and no rule applies it to them, so
its argument is a named phase. -/
def out (cfg : Configuration) (p : Phase) (t : Time) : OutRow :=
  match p with
  | .waitLow         => ⟨false, true,  cfg.colorRun1, cfg.colorRun1⟩
  | .waitHigh        => ⟨false, true,  cfg.colorRun2, Config.off⟩
  | .waitLowAgain    => ⟨false, true,  cfg.colorRun1, Config.off⟩
  | .seqBoth1        => ⟨true,  true,  cfg.colorRun2, Config.off⟩
  | .seqBatteryOnly  => ⟨true,  false, cfg.colorRun1, Config.off⟩
  | .seqBoth2        => ⟨true,  true,  cfg.colorRun2, Config.off⟩
  | .seqBusOnly      => ⟨false, true,  cfg.colorRun1, Config.off⟩
  | .waitHighAgain   => ⟨false, true,  cfg.colorRun2, Config.off⟩
  | .faultIndicate   => ⟨false, false, flash cfg t,   flash cfg t⟩
  | .timeoutIndicate => ⟨false, false, flash cfg t,   Config.off⟩

/-- The frame of the two slots' colors, in the order of R56. -/
def frameOf (s : State) : Frame where
  w0 := s.slot0.color0
  w1 := s.slot0.color1
  w2 := s.slot1.color0
  w3 := s.slot1.color1

/-- The frame register as 96 bits, `{FRAME[0], FRAME[1], FRAME[2], FRAME[3]}` with the first word most significant (R8, R27,
R60; DEDUCED from R60's braces, log entry 10, unsafe). -/
def Frame.bits (f : Frame) : BitVec 96 := f.w0 ++ f.w1 ++ f.w2 ++ f.w3

end Sys2Proof.Machine
end

