-- ==== Sys2Proof/Machine/Ops.lean ====
section
/-! DEFINITION. The shared operations of the slot rules: ENTER (40_tick.md R65), the output write (R61), a phase's own step,
taking an error class (60_exceptions.md R115) and the return from one (R116), the model's `ILLEGAL_PHASE` (R119), the frame
handover (R60, R121) and the output pins (10_state.md R29). -/

namespace Sys2Proof.Machine

/-- `ENTER(s, p, t)`: phase and timer base, no outputs (R65). -/
def enter (p : Phase) (t : Time) (v : Slot) : Slot := { v with phase := p.code, entered := t }

/-- Writes the four output registers from a row of `OUT` (R61). -/
def writeOut (o : OutRow) (v : Slot) : Slot :=
  { v with batEn := o.bat, busEn := o.bus, color0 := o.c0, color1 := o.c1 }

/-- The phase-logic arm of SLOT_STEP for phase `q` (R61): `ENTER` if the transition fires, then the outputs of `q`, the phase
whose logic ran, not of the phase entered (R134). `next` is what `NEXT_<q>` returned. That `q` is the row's own phase is
DEDUCED, log entry 13, safe. -/
def runPhase (q : Phase) (next : Option Phase) (s : State) : State :=
  let t := s.inp.now
  let moved :=
    match next with
    | some p => enter p t s.curSlot
    | none => s.curSlot
  s.setSlot s.cur (writeOut (out s.cfg q t) moved)

/-- A presence-based transition to `p`: fires when the line reads `level`, with no time gate (R70 to R73). -/
def whenPresence (level : Level) (p : Phase) (s : State) : Option Phase :=
  if s.presence s.cur = level then some p else none

/-- A time-based transition to `p`: fires once the elapsed time is at least `d` (R80 to R83). -/
def whenDwell (d : Nat) (p : Phase) (s : State) : Option Phase :=
  if dwellDone s s.cur d then some p else none

/-- The phase that records an error class; there is no cause register (R110, R111). -/
def indicatePhase : ErrorClass → Phase
  | .fault => .faultIndicate
  | .timeout => .timeoutIndicate

/-- Taking an error class (R115): saves nothing, enters the indicate phase at this tick's `now`, and writes the indicate
phase's outputs in the same tick, so both rails are off at once. -/
def takeError (e : ErrorClass) (s : State) : State :=
  let t := s.inp.now
  let q := indicatePhase e
  s.setSlot s.cur (writeOut (out s.cfg q t) (enter q t s.curSlot))

/-- The return from an error class (R116): no return instruction exists; the indicate phase's own dwell ends in `WAIT_LOW`,
never in the phase that was preempted (R90, R91). -/
def returnFromError (s : State) : Option Phase := whenDwell Config.indicateDwell .waitLow s

/-- `raise ILLEGAL_PHASE(s)` (R93, R119): sets the sticky `FAULT_MARK`, writes no state and no output of the slot. -/
def raiseIllegalPhase (s : State) : State := { s with faultMark := true }

/-- RESET of one slot (R130). -/
def resetSlot (t : Time) (v : Slot) : Slot :=
  { v with
    phase := Phase.waitLow.code, entered := t
    batEn := false, busEn := false, color0 := Config.off, color1 := Config.off }

/-- RESET (R130): both slots, the frame register, and `FAULT_MARK`. No level is read and `display` is not called.
`FAULT_MARK` is cleared though R34 and R119 say it never is: DEDUCED, log entry 12, unsafe. -/
def resetBlock (s : State) : State :=
  { s with
    slot0 := resetSlot s.inp.now s.slot0
    slot1 := resetSlot s.inp.now s.slot1
    frame := { w0 := Config.off, w1 := Config.off, w2 := Config.off, w3 := Config.off }
    faultMark := false }

/-- `display(frame)`: one atomic frame handed to the sink (R121). -/
def display (f : Frame) (k : Sink) : Sink := { shown := some f, strobes := k.strobes + 1 }

/-- The end of a TICK (R60): the frame register is written whole and handed to the sink. The scratch operand goes back to
slot 0 (log entry 3). -/
def handFrame (s : State) : State :=
  { s with frame := frameOf s, sink := display (frameOf s) s.sink, cur := .slot0 }

/-- The level a 1-bit enable drives: active high (R24, R25, R29). -/
def driveLevel (enable : Bool) : Level := if enable then .high else .low

/-- The output pin `bat_en[s]` (R29). -/
def batEnPin (s : State) (c : SlotId) : Level := driveLevel (s.slot c).batEn

/-- The output pin `bus_en[s]` (R29). -/
def busEnPin (s : State) (c : SlotId) : Level := driveLevel (s.slot c).busEn

/-- The output port `FRAME` (R29). -/
def framePort (s : State) : BitVec 96 := s.frame.bits

end Sys2Proof.Machine
end

