-- ==== Sys2Proof/Machine/Indicate.lean ====
section
/-! DEFINITION. The indicate phases (43_indicate.md R90, R91). The presence line is not read. -/

namespace Sys2Proof.Machine

/-- `NEXT_FAULT_INDICATE` (R90). -/
def nextFaultIndicate (s : State) : Option Phase := returnFromError s

/-- `NEXT_TIMEOUT_INDICATE` (R91). -/
def nextTimeoutIndicate (s : State) : Option Phase := returnFromError s

/-- `PH_FAULT_INDICATE` (R90). -/
def execPhFaultIndicate (s : State) : Host.Outcome State Fault Refusal :=
  .next (runPhase .faultIndicate (nextFaultIndicate s) s)

/-- `PH_TIMEOUT_INDICATE` (R91). -/
def execPhTimeoutIndicate (s : State) : Host.Outcome State Fault Refusal :=
  .next (runPhase .timeoutIndicate (nextTimeoutIndicate s) s)

end Sys2Proof.Machine
end

