-- ==== Sys2Proof/Machine/Overrides.lean ====
section
/-! DEFINITION. The two overrides: FAULT_PREEMPT and GLOBAL_TIMEOUT (40_tick.md R63, R64). -/

namespace Sys2Proof.Machine

/-- `FAULT_PREEMPT` (R63): the Fault class is taken, whatever the phase and the elapsed time. -/
def execFaultPreempt (s : State) : Host.Outcome State Fault Refusal := .next (takeError .fault s)

/-- `GLOBAL_TIMEOUT` (R64): the Timeout class is taken. -/
def execGlobalTimeout (s : State) : Host.Outcome State Fault Refusal := .next (takeError .timeout s)

end Sys2Proof.Machine
end

