-- ==== Sys2Proof/Machine/Presence.lean ====
section
/-! DEFINITION. The presence phases (41_presence.md R70 to R73). Each `next…` is the rule's `NEXT_…`. -/

namespace Sys2Proof.Machine

/-- `NEXT_WAIT_LOW` (R70). -/
def nextWaitLow (s : State) : Option Phase := whenPresence .low .waitHigh s

/-- `NEXT_WAIT_HIGH` (R71). -/
def nextWaitHigh (s : State) : Option Phase := whenPresence .high .waitLowAgain s

/-- `NEXT_WAIT_LOW_AGAIN` (R72). -/
def nextWaitLowAgain (s : State) : Option Phase := whenPresence .low .seqBoth1 s

/-- `NEXT_WAIT_HIGH_AGAIN` (R73): presence-based, no dwell (90_conflicts.md C5). -/
def nextWaitHighAgain (s : State) : Option Phase := whenPresence .high .waitLow s

/-- `PH_WAIT_LOW` (R70). -/
def execPhWaitLow (s : State) : Host.Outcome State Fault Refusal :=
  .next (runPhase .waitLow (nextWaitLow s) s)

/-- `PH_WAIT_HIGH` (R71). -/
def execPhWaitHigh (s : State) : Host.Outcome State Fault Refusal :=
  .next (runPhase .waitHigh (nextWaitHigh s) s)

/-- `PH_WAIT_LOW_AGAIN` (R72). -/
def execPhWaitLowAgain (s : State) : Host.Outcome State Fault Refusal :=
  .next (runPhase .waitLowAgain (nextWaitLowAgain s) s)

/-- `PH_WAIT_HIGH_AGAIN` (R73). -/
def execPhWaitHighAgain (s : State) : Host.Outcome State Fault Refusal :=
  .next (runPhase .waitHighAgain (nextWaitHighAgain s) s)

end Sys2Proof.Machine
end

