-- ==== Sys2Proof/Machine/Reserved.lean ====
section
/-! DEFINITION. The reserved phase codes (43_indicate.md R93). Log entry 7. -/

namespace Sys2Proof.Machine

/-- `RSV_PHASE_A_B` (R93). -/
def execRsvPhaseAB (s : State) : Host.Outcome State Fault Refusal := .next (raiseIllegalPhase s)

/-- `RSV_PHASE_C_F` (R93). -/
def execRsvPhaseCF (s : State) : Host.Outcome State Fault Refusal := .next (raiseIllegalPhase s)

end Sys2Proof.Machine
end

