-- ==== Sys2Proof/Machine/Reset.lean ====
section
/-! DEFINITION. The row RESET (70_reset_and_hazards.md R130). -/

namespace Sys2Proof.Machine

/-- `RESET` (R130, R131): applies to both slots at once. -/
def execReset (s : State) : Host.Outcome State Fault Refusal := .next (resetBlock s)

end Sys2Proof.Machine
end

