-- ==== Sys2Proof/Machine/Sequencing.lean ====
section
/-! DEFINITION. The rail-sequencing phases (42_sequencing.md R80 to R83). The presence line is not read. -/

namespace Sys2Proof.Machine

/-- `NEXT_SEQ_BOTH_1` (R80). -/
def nextSeqBoth1 (s : State) : Option Phase := whenDwell Config.seqDwell .seqBatteryOnly s

/-- `NEXT_SEQ_BATTERY_ONLY` (R81). -/
def nextSeqBatteryOnly (s : State) : Option Phase := whenDwell Config.seqDwell .seqBoth2 s

/-- `NEXT_SEQ_BOTH_2` (R82). -/
def nextSeqBoth2 (s : State) : Option Phase := whenDwell Config.seqDwell .seqBusOnly s

/-- `NEXT_SEQ_BUS_ONLY` (R83). -/
def nextSeqBusOnly (s : State) : Option Phase := whenDwell Config.seqDwell .waitHighAgain s

/-- `PH_SEQ_BOTH_1` (R80). -/
def execPhSeqBoth1 (s : State) : Host.Outcome State Fault Refusal :=
  .next (runPhase .seqBoth1 (nextSeqBoth1 s) s)

/-- `PH_SEQ_BATTERY_ONLY` (R81). -/
def execPhSeqBatteryOnly (s : State) : Host.Outcome State Fault Refusal :=
  .next (runPhase .seqBatteryOnly (nextSeqBatteryOnly s) s)

/-- `PH_SEQ_BOTH_2` (R82). -/
def execPhSeqBoth2 (s : State) : Host.Outcome State Fault Refusal :=
  .next (runPhase .seqBoth2 (nextSeqBoth2 s) s)

/-- `PH_SEQ_BUS_ONLY` (R83). -/
def execPhSeqBusOnly (s : State) : Host.Outcome State Fault Refusal :=
  .next (runPhase .seqBusOnly (nextSeqBusOnly s) s)

end Sys2Proof.Machine
end

