-- ==== Sys2Proof/Machine/Dispatch.lean ====
section
/-! DEFINITION. The dispatch: one arm per row of the selector map. -/

namespace Sys2Proof.Machine

def exec (i : Instr) (s : State) : Host.Outcome State Fault Refusal :=
  match i with
  | .reset _ _ _ => Sys2Proof.Machine.execReset s
  | .faultPreempt _ _ => Sys2Proof.Machine.execFaultPreempt s
  | .globalTimeout _ => Sys2Proof.Machine.execGlobalTimeout s
  | .phWaitLow => Sys2Proof.Machine.execPhWaitLow s
  | .phWaitHigh => Sys2Proof.Machine.execPhWaitHigh s
  | .phWaitLowAgain => Sys2Proof.Machine.execPhWaitLowAgain s
  | .phSeqBoth1 => Sys2Proof.Machine.execPhSeqBoth1 s
  | .phSeqBatteryOnly => Sys2Proof.Machine.execPhSeqBatteryOnly s
  | .phSeqBoth2 => Sys2Proof.Machine.execPhSeqBoth2 s
  | .phSeqBusOnly => Sys2Proof.Machine.execPhSeqBusOnly s
  | .phWaitHighAgain => Sys2Proof.Machine.execPhWaitHighAgain s
  | .phFaultIndicate => Sys2Proof.Machine.execPhFaultIndicate s
  | .phTimeoutIndicate => Sys2Proof.Machine.execPhTimeoutIndicate s
  | .rsvPhaseAB _ => Sys2Proof.Machine.execRsvPhaseAB s
  | .rsvPhaseCF _ => Sys2Proof.Machine.execRsvPhaseCF s

end Sys2Proof.Machine
end

