-- ==== Sys2Proof/Machine/Envelope.lean ====
section
/-! DEFINITION. The step envelope: SLOT_STEP (40_tick.md R61), TICK (R60), the reset event (70_reset_and_hazards.md R130),
the clock contract (R136) and the events the model refuses (93_implementation_defined.md). -/

namespace Sys2Proof.Machine

/-- Runs `k` on the next state of `o`; a stop stays a stop. -/
def andThen (o : Host.Outcome State Fault Refusal) (k : State → Host.Outcome State Fault Refusal) :
    Host.Outcome State Fault Refusal :=
  match o with
  | .next s => k s
  | .fault r => .fault r
  | .refused r => .refused r

/-- The instruction slot `c` runs: its selector, decoded (R51, R53). This is the block's fetch. -/
def fetch (s : State) (c : SlotId) : Instr := decodeSelector (selector s c)

/-- SLOT_STEP(c) (R61): decodes the slot's selector and runs the row it names on that slot. -/
def slotStep (c : SlotId) (s : State) : Host.Outcome State Fault Refusal :=
  exec (fetch s c) (s.atSlot c)

/-- The clock is behind the last sample in true time (R136, decision D19). -/
def clockDecreases (t : Nat) (s : State) : Bool := decide (t < s.lastNow)

/-- True time `t` is `2^32 - 5000` ms or more after the last tick (R136, decision D18). Before the first tick there is no gap. -/
def gapTooLong (t : Nat) (s : State) : Bool :=
  match s.lastTick with
  | some u => decide (Config.tickGapLimit ≤ t - u)
  | none => false

/-- Whether a tick at true time `t` breaks the clock contract (R136), and how. Each breach is refused, in every phase
(93_implementation_defined.md). Log entry 5. -/
def clockRefusal (t : Nat) (s : State) : Option Refusal :=
  if clockDecreases t s then some .clockDecreased
  else if gapTooLong t s then some .tickGapTooLong
  else none

/-- The body of TICK after sampling (R60): slot 0, then slot 1, then the frame (R47). -/
def tickBody (s : State) : Host.Outcome State Fault Refusal :=
  andThen (slotStep .slot0 s) fun a =>
    andThen (slotStep .slot1 a) fun b =>
      .next (handFrame b)

/-- TICK at a moment (R60), if the clock contract holds (R136). -/
def tickEvent (m : Moment) (s : State) : Host.Outcome State Fault Refusal :=
  match clockRefusal m.now s with
  | some r => .refused r
  | none => tickBody (s.sample m)

/-- The reset event at a moment (R130): the samples give R = 1, so the selector names RESET, which applies to both slots at
once; no SLOT_STEP runs. RESET may come at any time (R140), with a clock that has not gone back (R136). Log entries 5, 15. -/
def resetEvent (m : Moment) (s : State) : Host.Outcome State Fault Refusal :=
  if clockDecreases m.now s then .refused .clockDecreased
  else slotStep .slot0 (s.sample m)

/-- One moment of the ports: reset wins over a tick at the same moment (R130 b, decision D22); with neither event the block
holds its state and outputs (R125). Log entry 15. -/
def momentStep (m : Moment) (s : State) : Host.Outcome State Fault Refusal :=
  if m.reset then resetEvent m s
  else if m.tick then tickEvent m s
  else .next s

/-- Serves the next event. With none pending the block holds its state (R125; log entry 6). -/
def eventStep (s : State) : Host.Outcome State Fault Refusal :=
  match s.queue with
  | [] => .next s
  | .moment m :: rest => momentStep m { s with queue := rest }
  | .portFailure :: _ => .refused .portFailure
  | .consoleWrite :: _ => .refused .consoleWrite

/-- The phase code put in a slot so that it assembles `sel`: `sel`'s own, but `WAIT_HIGH` where `sel` asks for a timeout in
`WAIT_LOW`, which no slot can assemble (R54 b; log entry 8). -/
def placedPhase (sel : Selector) : PhaseCode :=
  if selT sel && selP sel == Phase.waitLow.code then Phase.waitHigh.code else selP sel

/-- A slot that, at clock word `t`, assembles `sel`: the phase code of `sel`, entered 5000 ms ago if T is set and now if not. -/
def placeSlot (sel : Selector) (t : Time) (v : Slot) : Slot :=
  { v with
    phase := placedPhase sel
    entered := if selT sel then timeSub t (BitVec.ofNat 32 Config.globalTimeout) else t }

/-- Puts both slots and one pending moment so that the next step runs the instruction of `sel` in both slots and nothing
else: the moment's events are R, its fault levels are F, its time is the last sample's, with no
tick before it to make a gap (log entry 8). -/
def placeSelector (s : State) (sel : Selector) : State :=
  let t := clockWord s.lastNow
  let lines : PinLevels := { presenceN := .high, faultN := if selF sel then .low else .high }
  { s with
    slot0 := placeSlot sel t s.slot0
    slot1 := placeSlot sel t s.slot1
    lastTick := none
    queue :=
      .moment { reset := selR sel, tick := !selR sel, now := s.lastNow, pins0 := lines, pins1 := lines } :: s.queue }

end Sys2Proof.Machine
end

