-- ==== Sys2Proof/Machine/Step.lean ====
section
/-! DEFINITION. One step of the block: one event (10_state.md R28; 40_tick.md R60: "TICK is the block's only step apart from
RESET"). -/

namespace Sys2Proof.Machine

/-- One step: the next event is served. -/
def step (s : State) : Host.Outcome State Fault Refusal := eventStep s

/-- `s` with both slots and the next event placed so that the next step runs the instruction of selector `w`, `nbits` of its
bits numbered as spec/opcode_table.json numbers them (log entries 6 and 8). -/
def State.withFetchWord (s : State) (nbits w : Nat) : State := placeSelector s (BitVec.ofNat 7 (w % 2 ^ nbits))

end Sys2Proof.Machine
end

