-- ==== Sys2Proof/Machine/Stimulus.lean ====
section
/-! DEFINITION. The stimulus notation (30_encoding.md R57, decision D14): the lines as data, their lowering to events, the
assertions, and a reader of the written lines. It drives the block from outside and adds no behaviour to it. -/

namespace Sys2Proof.Machine

/-! ### Lines as data -/

/-- The levels a TICK line gives; an omitted one is `none`. -/
structure LineLevels where
  p0 : Option Level
  f0 : Option Level
  p1 : Option Level
  f1 : Option Level
  deriving DecidableEq, Repr

/-- A color as an EXPECT line writes it: a name (the values are open, R7) or a word. -/
inductive ColorTerm where
  | run1
  | run2
  | fail
  | off
  | word (c : Color)
  deriving DecidableEq, Repr

/-- One `<field>=<value>` of an EXPECT line. -/
inductive Assertion where
  | phase (c : SlotId) (v : PhaseCode)
  | entered (c : SlotId) (v : Time)
  | bat (c : SlotId) (v : Bool)
  | bus (c : SlotId) (v : Bool)
  | c0 (c : SlotId) (v : ColorTerm)
  | c1 (c : SlotId) (v : ColorTerm)
  | frame (v0 v1 v2 v3 : ColorTerm)
  deriving DecidableEq, Repr

/-- One line of a stimulus program. -/
inductive StimulusLine where
  /-- `RESET now=<u32>`. -/
  | reset (now : Time)
  /-- `TICK now=<u32> p0= f0= p1= f1=`. -/
  | tick (now : Time) (levels : LineLevels)
  /-- `REPEAT TICK now=<t0>..<t1> step=<d> …`. -/
  | repeatTick (t0 t1 : Time) (step : Nat) (levels : LineLevels)
  /-- `EXPECT <field>=<value> …`. -/
  | expect (assertions : List Assertion)
  deriving DecidableEq, Repr

/-- "Omitted levels default to the idle electrical level `1`" (R57). -/
def levelOr1 (l : Option Level) : Level := l.getD .high

/-- The moment a line describes, at true time `t`. -/
def lineMoment (reset : Bool) (t : Nat) (l : LineLevels) : Moment where
  reset := reset
  tick  := !reset
  now   := t
  pins0 := { presenceN := levelOr1 l.p0, faultN := levelOr1 l.f0 }
  pins1 := { presenceN := levelOr1 l.p1, faultN := levelOr1 l.f1 }

/-- The first true time at or after `last` whose clock word is `w`: a line gives a word, and a word that is lower than the
one before it has wrapped (R136; log entry 11). -/
def unwrap (last : Nat) (w : Time) : Nat := last + (timeSub w (clockWord last)).toNat

/-- The clock words of `REPEAT TICK now=<t0>..<t1> step=<d>`: `t0`, `t0+d`, up to the largest `t0+k*d ≤ t1` (R57). -/
def repeatTimes (t0 t1 d : Nat) : List Nat :=
  if d = 0 || decide (t1 < t0) then [] else (List.range ((t1 - t0) / d + 1)).map fun k => t0 + k * d

/-- The stimulus line can be written out: a REPEAT has a positive step. -/
def StimulusLine.wf : StimulusLine → Bool
  | .reset _ => true
  | .tick _ _ => true
  | .repeatTick _ _ d _ => decide (0 < d)
  | .expect _ => true

/-- The TICK lines of a list of clock words, after true time `last`; the second part is the true time after them. -/
def tickEvents (l : LineLevels) : Nat → List Nat → List Event × Nat
  | last, [] => ([], last)
  | last, w :: rest =>
    let t := unwrap last (BitVec.ofNat 32 w)
    let more := tickEvents l t rest
    (.moment (lineMoment false t l) :: more.1, more.2)

/-- The events of one line after true time `last`, and the true time after it. EXPECT has "no effect on the block". -/
def lineEvents (last : Nat) : StimulusLine → List Event × Nat
  | .reset w =>
    let t := unwrap last w
    ([.moment (lineMoment true t { p0 := none, f0 := none, p1 := none, f1 := none })], t)
  | .tick w l => tickEvents l last [w.toNat]
  | .repeatTick t0 t1 d l => tickEvents l last (repeatTimes t0.toNat t1.toNat d)
  | .expect _ => ([], last)

/-- The events of a program after true time `last`. -/
def programEvents : Nat → List StimulusLine → List Event
  | _, [] => []
  | last, line :: rest => (lineEvents last line).1 ++ programEvents (lineEvents last line).2 rest

/-! ### Assertions -/

/-- The word a color term stands for in a configuration. -/
def ColorTerm.value (cfg : Configuration) : ColorTerm → Color
  | .run1 => cfg.colorRun1
  | .run2 => cfg.colorRun2
  | .fail => cfg.colorFail
  | .off => Config.off
  | .word c => c

/-- The assertion is true of a state. -/
def Assertion.holds (s : State) : Assertion → Bool
  | .phase c v => (s.slot c).phase == v
  | .entered c v => (s.slot c).entered == v
  | .bat c v => (s.slot c).batEn == v
  | .bus c v => (s.slot c).busEn == v
  | .c0 c v => (s.slot c).color0 == v.value s.cfg
  | .c1 c v => (s.slot c).color1 == v.value s.cfg
  | .frame v0 v1 v2 v3 =>
    s.frame == { w0 := v0.value s.cfg, w1 := v1.value s.cfg, w2 := v2.value s.cfg, w3 := v3.value s.cfg }

/-- Serves a list of events, one step each. -/
def runEvents : List Event → State → Host.Outcome State Fault Refusal
  | [], s => .next s
  | e :: rest, s => andThen (step { s with queue := [e] }) (runEvents rest)

/-- Runs a program and answers the state after it and whether every assertion met on the way held. -/
def runProgram : List StimulusLine → Bool → State → Host.Outcome (State × Bool) Fault Refusal
  | [], ok, s => .next (s, ok)
  | .expect as :: rest, ok, s => runProgram rest (ok && as.all (Assertion.holds s)) s
  | line :: rest, ok, s =>
    match runEvents (lineEvents s.lastNow line).1 s with
    | .next t => runProgram rest ok t
    | .fault r => .fault r
    | .refused r => .refused r

/-! ### Reading written lines -/

/-- The words of a line, split at blanks. -/
def splitBlanks : List Char → List (List Char)
  | [] => []
  | ch :: rest =>
    match ch, splitBlanks rest with
    | ' ', ws => [] :: ws
    | ch, [] => [[ch]]
    | ch, w :: ws => (ch :: w) :: ws

/-- "A `#` starts a comment" (R57). -/
def lineWords (cs : List Char) : List (List Char) :=
  (splitBlanks (cs.takeWhile (· != '#'))).filter (!·.isEmpty)

/-- The text before and after the first `sep`. -/
def cutAt (sep : Char) : List Char → Option (List Char × List Char)
  | [] => none
  | ch :: rest => if ch = sep then some ([], rest) else (cutAt sep rest).map fun r => (ch :: r.1, r.2)

/-- The value of a digit in a base. -/
def digitValue (base : Nat) (ch : Char) : Option Nat :=
  let n := ch.toNat
  let v :=
    if 48 ≤ n && n ≤ 57 then n - 48
    else if 97 ≤ n && n ≤ 102 then n - 87
    else if 65 ≤ n && n ≤ 70 then n - 55
    else base
  if v < base then some v else none

/-- A numeral in a base; at least one digit. -/
def readDigits (base : Nat) : List Char → Option Nat
  | [] => none
  | cs => cs.foldl (fun acc ch => acc.bind fun a => (digitValue base ch).map fun d => a * base + d) (some 0)

/-- "Numbers are decimal unless prefixed `0x`" (R57). -/
def readNumber : List Char → Option Nat
  | '0' :: 'x' :: cs => readDigits 16 cs
  | cs => readDigits 10 cs

/-- A number of at most `n` bits. -/
def readBits (n : Nat) (cs : List Char) : Option (BitVec n) :=
  (readNumber cs).bind fun v => if v < 2 ^ n then some (BitVec.ofNat n v) else none

/-- A level, `0` or `1`. -/
def readLevel (cs : List Char) : Option Level :=
  (readBits 1 cs).map fun b => if b = 1#1 then .high else .low

/-- The levels after `now` (and `step`) of a TICK line. -/
def readLevels : List (List Char) → LineLevels → Option LineLevels
  | [], l => some l
  | w :: ws, l =>
    match cutAt '=' w with
    | some (['p', '0'], v) => (readLevel v).bind fun x => readLevels ws { l with p0 := some x }
    | some (['f', '0'], v) => (readLevel v).bind fun x => readLevels ws { l with f0 := some x }
    | some (['p', '1'], v) => (readLevel v).bind fun x => readLevels ws { l with p1 := some x }
    | some (['f', '1'], v) => (readLevel v).bind fun x => readLevels ws { l with f1 := some x }
    | _ => none

/-- The phases by the names the spec writes (R21). -/
def phaseNames : List (String × Phase) :=
  [("WAIT_LOW", .waitLow), ("WAIT_HIGH", .waitHigh), ("WAIT_LOW_AGAIN", .waitLowAgain), ("SEQ_BOTH_1", .seqBoth1),
   ("SEQ_BATTERY_ONLY", .seqBatteryOnly)] ++
  [("SEQ_BOTH_2", .seqBoth2), ("SEQ_BUS_ONLY", .seqBusOnly), ("WAIT_HIGH_AGAIN", .waitHighAgain),
   ("FAULT_INDICATE", .faultIndicate), ("TIMEOUT_INDICATE", .timeoutIndicate)]

/-- A phase by name, or a code. -/
def readPhase (cs : List Char) : Option PhaseCode :=
  match phaseNames.find? fun r => r.1.toList == cs with
  | some r => some r.2.code
  | none => readBits 4 cs

/-- A color by name, or a word. -/
def readColor (cs : List Char) : Option ColorTerm :=
  if cs = ['R', 'U', 'N', '1'] then some .run1
  else if cs = ['R', 'U', 'N', '2'] then some .run2
  else if cs = ['F', 'A', 'I', 'L'] then some .fail
  else if cs = ['O', 'F', 'F'] then some .off
  else (readBits 24 cs).map .word

/-- A frame, `[<c>,<c>,<c>,<c>]`. -/
def readFrame : List Char → Option Assertion
  | '[' :: cs =>
    (cutAt ',' cs).bind fun a => (cutAt ',' a.2).bind fun b => (cutAt ',' b.2).bind fun c => (cutAt ']' c.2).bind fun d =>
      (readColor a.1).bind fun v0 => (readColor b.1).bind fun v1 => (readColor c.1).bind fun v2 =>
        (readColor d.1).bind fun v3 => if d.2.isEmpty then some (.frame v0 v1 v2 v3) else none
  | _ => none

/-- The slot number at the end of a field name. -/
def readSlot : Char → Option SlotId
  | '0' => some .slot0
  | '1' => some .slot1
  | _ => none

/-- One `<field>=<value>`. -/
def readAssertion (w : List Char) : Option Assertion :=
  match cutAt '=' w with
  | some (['p', 'h', 'a', 's', 'e', n], v) => (readSlot n).bind fun c => (readPhase v).map (.phase c)
  | some (['e', 'n', 't', 'e', 'r', 'e', 'd', n], v) => (readSlot n).bind fun c => (readBits 32 v).map (.entered c)
  | some (['b', 'a', 't', n], v) => (readSlot n).bind fun c => (readBits 1 v).map fun b => .bat c (b == 1#1)
  | some (['b', 'u', 's', n], v) => (readSlot n).bind fun c => (readBits 1 v).map fun b => .bus c (b == 1#1)
  | some (['c', '0', '_', n], v) => (readSlot n).bind fun c => (readColor v).map (.c0 c)
  | some (['c', '1', '_', n], v) => (readSlot n).bind fun c => (readColor v).map (.c1 c)
  | some (['f', 'r', 'a', 'm', 'e'], v) => readFrame v
  | _ => none

/-- The value of the field `now=…`. -/
def readNow (w : List Char) : Option (List Char) :=
  match cutAt '=' w with
  | some (['n', 'o', 'w'], v) => some v
  | _ => none

/-- No level given. -/
def noLevels : LineLevels := { p0 := none, f0 := none, p1 := none, f1 := none }

/-- The fields of `REPEAT TICK`: `now=<t0>..<t1> step=<d>` and the levels. -/
def readRepeat (range step : List Char) (ws : List (List Char)) : Option StimulusLine :=
  match (readNow range).bind (cutAt '.'), cutAt '=' step with
  | some (t0, '.' :: t1), some (['s', 't', 'e', 'p'], d) =>
    (readBits 32 t0).bind fun a => (readBits 32 t1).bind fun b => (readNumber d).bind fun k =>
      (readLevels ws noLevels).map fun l => .repeatTick a b k l
  | _, _ => none

/-- Reads the words of a line. -/
def readWords : List (List Char) → Option StimulusLine
  | [['R', 'E', 'S', 'E', 'T'], w] => ((readNow w).bind (readBits 32)).map .reset
  | ['T', 'I', 'C', 'K'] :: w :: ws =>
    ((readNow w).bind (readBits 32)).bind fun t => (readLevels ws noLevels).map fun l => .tick t l
  | ['R', 'E', 'P', 'E', 'A', 'T'] :: ['T', 'I', 'C', 'K'] :: range :: step :: ws => readRepeat range step ws
  | ['E', 'X', 'P', 'E', 'C', 'T'] :: ws => (ws.mapM readAssertion).map .expect
  | _ => none

/-- Reads one written line of R57; `none` where the line is none of the notation's, or is not well formed.
A line that holds only a comment, only blanks, or nothing describes no event, and the reader answers `none` for it too, as for
a malformed one: R57 does not say (DESIGN CHOICE, log entry 11, safe). -/
def readLine (cs : List Char) : Option StimulusLine :=
  (readWords (lineWords cs)).bind fun line => if line.wf then some line else none

end Sys2Proof.Machine
end

