-- ==== Sys2Proof/Safety.lean ====
section
/-! DEFINITION. What counts as a safe state and a run within the contract, in the terms the statements use. -/

namespace Sys2Proof.Safety

open Sys2Proof.Machine

/-- The code names one of the ten phases (R21, R22). -/
def legalCode (c : PhaseCode) : Bool := (Phase.ofCode c).isSome

/-- Both phase registers hold a legal code: "The reserved codes are unreachable from reset" (R22). -/
def LegalPhases (s : State) : Prop := legalCode s.slot0.phase = true ∧ legalCode s.slot1.phase = true

/-- A good state: no `ILLEGAL_PHASE` was raised ("A faulted run is never a good final state", R119) and none can be. -/
def Unmarked (s : State) : Prop := s.faultMark = false ∧ LegalPhases s

/-- The frame register holds the four color registers, in the order of R56 (R27). -/
def FrameCurrent (s : State) : Prop := s.frame = frameOf s

/-- The rail pairs `(bat, bus)` a slot can hold while its phase register holds `p`: the row of `p` once `p`'s logic has
run, and before that the row of the phase `p` was entered from, since the rails lag by one tick (R33, R84, R134). -/
def railPairs : Phase → List (Bool × Bool)
  | .waitLow         => [(false, true), (false, false)]
  | .waitHigh        => [(false, true)]
  | .waitLowAgain    => [(false, true)]
  | .seqBoth1        => [(false, true), (true, true)]
  | .seqBatteryOnly  => [(true, true), (true, false)]
  | .seqBoth2        => [(true, false), (true, true)]
  | .seqBusOnly      => [(true, true), (false, true)]
  | .waitHighAgain   => [(false, true)]
  | .faultIndicate   => [(false, false)]
  | .timeoutIndicate => [(false, false)]

/-- The rails a slot holds fit its phase. -/
def railsFit (v : Slot) : Bool :=
  match Phase.ofCode v.phase with
  | some p => (railPairs p).contains (v.batEn, v.busEn)
  | none => false

/-- In both slots the rails held fit the phase held. -/
def RailsFollow (s : State) : Prop := railsFit s.slot0 = true ∧ railsFit s.slot1 = true

/-! ### The controller as a pure transition function (R32)

The document's own shape of a slot controller, "(phase, elapsed, presence, fault) -> (next_phase, rail_outputs, colors)",
written from the phase list and the precedence of R61 alone, without the selector, the decoder or the meanings. A statement
says that the machine's step is this function. -/

/-- The phase that phase `p`'s own transition leads to (R70 to R73, R80 to R83, R90, R91). -/
def successor : Phase → Phase
  | .waitLow         => .waitHigh
  | .waitHigh        => .waitLowAgain
  | .waitLowAgain    => .seqBoth1
  | .seqBoth1        => .seqBatteryOnly
  | .seqBatteryOnly  => .seqBoth2
  | .seqBoth2        => .seqBusOnly
  | .seqBusOnly      => .waitHighAgain
  | .waitHighAgain   => .waitLow
  | .faultIndicate   => .waitLow
  | .timeoutIndicate => .waitLow

/-- Phase `p`'s own transition is due: the presence line reads the level it waits for, or its dwell is over. -/
def due (p : Phase) (presence : Level) (el : Nat) : Prop :=
  match p with
  | .waitLow | .waitLowAgain => presence = .low
  | .waitHigh | .waitHighAgain => presence = .high
  | .seqBoth1 | .seqBatteryOnly | .seqBoth2 | .seqBusOnly => 500 ≤ el
  | .faultIndicate | .timeoutIndicate => 2000 ≤ el

/-- What one tick does to a slot that holds phase `p` (R61): `(q, next)`, where `q` is the phase whose output row is
written, and `next` the phase entered, if one is. -/
def Transition (p : Phase) (el : Nat) (presence fault : Level) (q : Phase) (next : Option Phase) : Prop :=
  (fault = .low ∧ q = .faultIndicate ∧ next = some .faultIndicate) ∨
  (fault = .high ∧ p ≠ .waitLow ∧ 5000 ≤ el ∧ q = .timeoutIndicate ∧ next = some .timeoutIndicate) ∨
  (fault = .high ∧ (p = .waitLow ∨ el < 5000) ∧ q = p ∧
    ((due p presence el ∧ next = some (successor p)) ∨ (¬ due p presence el ∧ next = none)))

/-! ### Runs -/

/-- `k` steps of the machine, stopping at the first stop (R133). -/
def runFor : Nat → State → Host.Outcome State Fault Refusal
  | 0, s => .next s
  | k + 1, s => andThen (step s) (runFor k)

/-- A tick that no reset overrides. -/
def plainTick (m : Moment) : Bool := m.tick && !m.reset

/-- The presence levels that slot `c` samples over a list of events: one for each tick. -/
def tickLevels (c : SlotId) : List Event → List Level
  | [] => []
  | .moment m :: rest => if plainTick m then (m.pins c).presenceN :: tickLevels c rest else tickLevels c rest
  | .portFailure :: rest => tickLevels c rest
  | .consoleWrite :: rest => tickLevels c rest

/-- A tick at true time `t` is less than `2^32 - 5000` ms after the tick before it, if there was one (R136). -/
def gapFits (lastTick : Option Nat) (t : Nat) : Bool := lastTick.all fun u => decide (t - u < Config.tickGapLimit)

/-- The events keep the host's contract after a clock sample at true time `last` and a last tick at `lastTick` (R136, R140): no
failed pin access, no console write, no reset or tick whose clock is behind the sample before it, and each tick less than
`2^32 - 5000` ms after the tick before it. Log entry 5. -/
def honours : Nat → Option Nat → List Event → Bool
  | _, _, [] => true
  | last, lastTick, .moment m :: rest =>
    if m.reset then decide (last ≤ m.now) && honours m.now lastTick rest
    else if m.tick then decide (last ≤ m.now) && gapFits lastTick m.now && honours m.now (some m.now) rest
    else honours last lastTick rest
  | _, _, .portFailure :: _ => false
  | _, _, .consoleWrite :: _ => false

/-! ### Boot (R132) -/

/-- What the platform does around the block's first RESET. -/
inductive BootAction where
  /-- Configures each slot's `bat_en` and `bus_en` pins as outputs driven low. -/
  | railsAsOutputsLow
  /-- Configures `presence_n` and `fault_n` as inputs with the pull-ups of `PIN_MAP`. -/
  | sensesAsInputs
  /-- Has the clock running. -/
  | startClock
  /-- Applies RESET. -/
  | applyReset
  /-- Raises `tick`. -/
  | raiseTick
  deriving DecidableEq, Repr

/-- The boot order of R132: rail pins, sense pins, clock, then RESET, "and only after that the first `tick`". Later ticks
and resets come in any order (R140). The platform's duty, no part of State: log entry 16. -/
def bootOrder : List BootAction → Bool
  | .railsAsOutputsLow :: .sensesAsInputs :: .startClock :: .applyReset :: rest =>
    rest.all fun a => a == .applyReset || a == .raiseTick
  | _ => false

end Sys2Proof.Safety
end

