-- ==== Sys2Proof/Certificates/Slice0/Obligations.lean ====
section
/-! DEFINITION. The statements about the power sequencer, for the provers. Each docstring names the rule it formalises. -/

open Sys2Proof Sys2Proof.Machine Sys2Proof.Safety

/-! ### Encodings -/

/-- Decoding the bytes of any instruction gives it back, with every don't-care bit, and leaves the bytes after it. -/
def Obligations.DecodeReadsBackEncode : Prop :=
  ∀ (i : Instr) (rest : List Byte), decode (encode i ++ rest) = .ok (i, rest)

/-- Every selector is the encoding of the instruction it decodes to: no two selectors are confused. This is so because a
constructor keeps the bits that its row's mask leaves free, the model's choice (log entry 8); R53 gives no encoder. -/
def Obligations.EncodeReadsBackDecode : Prop :=
  ∀ sel : Selector, encodeSelector (decodeSelector sel) = sel

/-- R53: the selector map, row by row, as `match` and `mask`. -/
def Obligations.SelectorMapPicksTheTableRow : Prop :=
  ∀ sel : Selector,
    let m := (decodeSelector sel).mnemonic
    (m = "RESET" ↔ sel &&& 0x40#7 = 0x40#7) ∧
    (m = "FAULT_PREEMPT" ↔ sel &&& 0x60#7 = 0x20#7) ∧
    (m = "GLOBAL_TIMEOUT" ↔ sel &&& 0x70#7 = 0x10#7) ∧
    (m = "PH_WAIT_LOW" ↔ sel = 0x00#7) ∧
    (m = "PH_WAIT_HIGH" ↔ sel = 0x01#7) ∧
    (m = "PH_WAIT_LOW_AGAIN" ↔ sel = 0x02#7) ∧
    (m = "PH_SEQ_BOTH_1" ↔ sel = 0x03#7) ∧
    (m = "PH_SEQ_BATTERY_ONLY" ↔ sel = 0x04#7) ∧
    (m = "PH_SEQ_BOTH_2" ↔ sel = 0x05#7) ∧
    (m = "PH_SEQ_BUS_ONLY" ↔ sel = 0x06#7) ∧
    (m = "PH_WAIT_HIGH_AGAIN" ↔ sel = 0x07#7) ∧
    (m = "PH_FAULT_INDICATE" ↔ sel = 0x08#7) ∧
    (m = "PH_TIMEOUT_INDICATE" ↔ sel = 0x09#7) ∧
    (m = "RSV_PHASE_A_B" ↔ sel &&& 0x7E#7 = 0x0A#7) ∧
    (m = "RSV_PHASE_C_F" ↔ sel &&& 0x7C#7 = 0x0C#7) ∧
    (selectorTable.filter fun row => row.hits sel).length = 1

/-- Words written out from the patterns of R53, one of each family, decode to their rows; a byte with bit 7 set is none. -/
def Obligations.WrittenWordsDecode : Prop :=
  decodeSelector 0b1111111#7 = .reset true true 0b1111#4 ∧
  decodeSelector 0b0110001#7 = .faultPreempt true 0b0001#4 ∧
  decodeSelector 0b0010001#7 = .globalTimeout 0b0001#4 ∧
  decodeSelector 0b0000111#7 = .phWaitHighAgain ∧
  decodeSelector 0b0000100#7 = .phSeqBatteryOnly ∧
  decodeSelector 0b0001001#7 = .phTimeoutIndicate ∧
  decodeSelector 0b0001011#7 = .rsvPhaseAB true ∧
  decodeSelector 0b0001110#7 = .rsvPhaseCF 0b10#2 ∧
  decode [0b10000000#8] = .error .notASelector

/-- R51: the selector of a slot, field by field, from the slot's state and the samples. -/
def Obligations.SelectorIsAssembledFromStateAndSamples : Prop :=
  ∀ (s : State) (c : SlotId),
    ((selector s c).getLsbD 6 = true ↔ s.inp.reset = true) ∧
    ((selector s c).getLsbD 5 = true ↔ (s.inp.pins c).faultN = .low) ∧
    ((selector s c).getLsbD 4 = true ↔
      (s.slot c).phase ≠ 0b0000#4 ∧ 5000 ≤ (s.inp.now - (s.slot c).entered).toNat) ∧
    (selector s c).extractLsb' 0 4 = (s.slot c).phase

/-- R52, R54 b: the selector a slot assembles never names a timeout in `WAIT_LOW`, in any state. -/
def Obligations.FetchedInstructionIsWellFormed : Prop :=
  ∀ (s : State) (c : SlotId), (fetch s c).wf = true

/-- R55: packing and reading the channels of a color word agree both ways, red most significant. -/
def Obligations.ColorChannelsRoundTrip : Prop :=
  (∀ r g b : Byte, redOf (packColor r g b) = r ∧ greenOf (packColor r g b) = g ∧ blueOf (packColor r g b) = b ∧
    (packColor r g b).toNat = r.toNat * 2 ^ 16 + g.toNat * 2 ^ 8 + b.toNat) ∧
  (∀ w : Color, packColor (redOf w) (greenOf w) (blueOf w) = w)

/-! ### Conditions, timer, output table -/

/-- R30: the condition signals, by their definitions. -/
def Obligations.ConditionSignals : Prop :=
  ∀ (s : State) (c : SlotId) (d : Nat) (t : Time),
    (faulted s c = true ↔ (s.inp.pins c).faultN = .low) ∧
    (presLow s c = true ↔ (s.inp.pins c).presenceN = .low) ∧
    (presHigh s c = true ↔ (s.inp.pins c).presenceN = .high) ∧
    elapsed s c = s.inp.now - (s.slot c).entered ∧
    (timeoutCond s c = true ↔ (s.slot c).phase ≠ 0b0000#4 ∧ 5000 ≤ (elapsed s c).toNat) ∧
    (dwellDone s c d = true ↔ d ≤ (elapsed s c).toNat) ∧
    (flashLit t = true ↔ t.toNat % 200 ≤ 100)

/-- R62: the timer is a difference modulo 2^32, so it is the true elapsed time across a wrap of the clock word whenever
that time is below 2^32 ms. `te` and `t` are true times. -/
def Obligations.ElapsedIsTrueTimeAcrossAWrap : Prop :=
  ∀ (s : State) (c : SlotId) (te t : Nat),
    (elapsed s c).toNat = (s.inp.now.toNat + (2 ^ 32 - (s.slot c).entered.toNat)) % 2 ^ 32 ∧
    (s.inp.now = clockWord t → (s.slot c).entered = clockWord te → te ≤ t → t - te < 2 ^ 32 →
      (elapsed s c).toNat = t - te)

/-- R65: ENTER sets the phase and the timer base and writes no output. -/
def Obligations.EnterSetsPhaseAndTimerOnly : Prop :=
  ∀ (p : Phase) (t : Time) (v : Slot), enter p t v = { v with phase := p.code, entered := t }

/-- R102: the flash color depends on the clock word alone, with period 200 ms within the word, lit for the values 0 to 100 of
the word modulo 200 and dark for 101 to 199. -/
def Obligations.FlashFollowsTheClockWord : Prop :=
  ∀ (cfg : Configuration) (t : Time),
    (t.toNat % 200 ≤ 100 → flash cfg t = cfg.colorFail) ∧
    (100 < t.toNat % 200 → flash cfg t = 0x000000#24) ∧
    (t.toNat + 200 < 2 ^ 32 → flash cfg (t + 200#32) = flash cfg t)

/-- R103: the output table, row by row. -/
def Obligations.OutputTable : Prop :=
  ∀ (cfg : Configuration) (t : Time),
    let fl := if t.toNat % 200 ≤ 100 then cfg.colorFail else 0x000000#24
    out cfg .waitLow t = ⟨false, true, cfg.colorRun1, cfg.colorRun1⟩ ∧
    out cfg .waitHigh t = ⟨false, true, cfg.colorRun2, 0x000000#24⟩ ∧
    out cfg .waitLowAgain t = ⟨false, true, cfg.colorRun1, 0x000000#24⟩ ∧
    out cfg .seqBoth1 t = ⟨true, true, cfg.colorRun2, 0x000000#24⟩ ∧
    out cfg .seqBatteryOnly t = ⟨true, false, cfg.colorRun1, 0x000000#24⟩ ∧
    out cfg .seqBoth2 t = ⟨true, true, cfg.colorRun2, 0x000000#24⟩ ∧
    out cfg .seqBusOnly t = ⟨false, true, cfg.colorRun1, 0x000000#24⟩ ∧
    out cfg .waitHighAgain t = ⟨false, true, cfg.colorRun2, 0x000000#24⟩ ∧
    out cfg .faultIndicate t = ⟨false, false, fl, fl⟩ ∧
    out cfg .timeoutIndicate t = ⟨false, false, fl, 0x000000#24⟩

/-- R104: indicator 1 is `OFF` in every phase except the two that set both indicators. -/
def Obligations.IndicatorOneIsOffByDefault : Prop :=
  ∀ (cfg : Configuration) (p : Phase) (t : Time),
    (p ≠ .waitLow → p ≠ .faultIndicate → (out cfg p t).c1 = 0x000000#24) ∧
    (p = .waitLow → (out cfg p t).c0 = cfg.colorRun1 ∧ (out cfg p t).c1 = cfg.colorRun1) ∧
    (p = .faultIndicate → (out cfg p t).c0 = flash cfg t ∧ (out cfg p t).c1 = flash cfg t)

/-- R29: the output pins and the frame port show their registers; the enables are active high; word 0 of the frame is its
most significant (log entry 10). -/
def Obligations.OutputPinsShowTheirRegisters : Prop :=
  ∀ (s : State) (c : SlotId),
    (batEnPin s c = .high ↔ (s.slot c).batEn = true) ∧
    (busEnPin s c = .high ↔ (s.slot c).busEn = true) ∧
    (framePort s).extractLsb' 72 24 = s.frame.w0 ∧ (framePort s).extractLsb' 48 24 = s.frame.w1 ∧
    (framePort s).extractLsb' 24 24 = s.frame.w2 ∧ (framePort s).extractLsb' 0 24 = s.frame.w3

/-! ### What each instruction does

The first part of each says when a slot fetches the row; the second, that the row answers a next state, in every state,
and which. `s.cur` is the slot whose step is running. -/

/-- R63: FAULT_PREEMPT. -/
def Obligations.FaultPreemptEntersFaultIndicate : Prop :=
  (∀ (s : State) (c : SlotId), s.inp.reset = false → (s.inp.pins c).faultN = .low →
    ∃ t p, fetch s c = .faultPreempt t p) ∧
  (∀ (s : State) (tb : Bool) (p : PhaseCode),
    let fl := if s.inp.now.toNat % 200 ≤ 100 then s.cfg.colorFail else 0x000000#24
    exec (.faultPreempt tb p) s =
      .next (s.setSlot s.cur
        { phase := 0b1000#4, entered := s.inp.now, batEn := false, busEn := false, color0 := fl, color1 := fl }))

/-- R64: GLOBAL_TIMEOUT. -/
def Obligations.GlobalTimeoutEntersTimeoutIndicate : Prop :=
  (∀ (s : State) (c : SlotId), s.inp.reset = false →
    ((∃ p, fetch s c = .globalTimeout p) ↔
      ((s.inp.pins c).faultN = .high ∧ (s.slot c).phase ≠ 0b0000#4 ∧
        5000 ≤ (s.inp.now - (s.slot c).entered).toNat))) ∧
  (∀ (s : State) (p : PhaseCode),
    let fl := if s.inp.now.toNat % 200 ≤ 100 then s.cfg.colorFail else 0x000000#24
    exec (.globalTimeout p) s =
      .next (s.setSlot s.cur
        { phase := 0b1001#4, entered := s.inp.now, batEn := false, busEn := false, color0 := fl, color1 := 0x000000#24 }))

/-- R70: PH_WAIT_LOW. No elapsed time is read, at the fetch either: the global timeout never applies in `WAIT_LOW`. -/
def Obligations.WaitLowWaitsForPresenceLow : Prop :=
  (∀ (s : State) (c : SlotId), s.inp.reset = false → (s.inp.pins c).faultN = .high → (s.slot c).phase = 0b0000#4 →
    fetch s c = .phWaitLow) ∧
  (∀ s : State,
    exec .phWaitLow s =
      .next (s.setSlot s.cur
        { phase := if (s.inp.pins s.cur).presenceN = .low then 0b0001#4 else (s.slot s.cur).phase
          entered := if (s.inp.pins s.cur).presenceN = .low then s.inp.now else (s.slot s.cur).entered
          batEn := false, busEn := true, color0 := s.cfg.colorRun1, color1 := s.cfg.colorRun1 }))

/-- R71: PH_WAIT_HIGH. -/
def Obligations.WaitHighWaitsForPresenceHigh : Prop :=
  (∀ (s : State) (c : SlotId), s.inp.reset = false → (s.inp.pins c).faultN = .high → (s.slot c).phase = 0b0001#4 →
    (s.inp.now - (s.slot c).entered).toNat < 5000 → fetch s c = .phWaitHigh) ∧
  (∀ s : State,
    exec .phWaitHigh s =
      .next (s.setSlot s.cur
        { phase := if (s.inp.pins s.cur).presenceN = .high then 0b0010#4 else (s.slot s.cur).phase
          entered := if (s.inp.pins s.cur).presenceN = .high then s.inp.now else (s.slot s.cur).entered
          batEn := false, busEn := true, color0 := s.cfg.colorRun2, color1 := 0x000000#24 }))

/-- R72: PH_WAIT_LOW_AGAIN. -/
def Obligations.WaitLowAgainWaitsForPresenceLow : Prop :=
  (∀ (s : State) (c : SlotId), s.inp.reset = false → (s.inp.pins c).faultN = .high → (s.slot c).phase = 0b0010#4 →
    (s.inp.now - (s.slot c).entered).toNat < 5000 → fetch s c = .phWaitLowAgain) ∧
  (∀ s : State,
    exec .phWaitLowAgain s =
      .next (s.setSlot s.cur
        { phase := if (s.inp.pins s.cur).presenceN = .low then 0b0011#4 else (s.slot s.cur).phase
          entered := if (s.inp.pins s.cur).presenceN = .low then s.inp.now else (s.slot s.cur).entered
          batEn := false, busEn := true, color0 := s.cfg.colorRun1, color1 := 0x000000#24 }))

/-- R73: PH_WAIT_HIGH_AGAIN. -/
def Obligations.WaitHighAgainWaitsForPresenceHigh : Prop :=
  (∀ (s : State) (c : SlotId), s.inp.reset = false → (s.inp.pins c).faultN = .high → (s.slot c).phase = 0b0111#4 →
    (s.inp.now - (s.slot c).entered).toNat < 5000 → fetch s c = .phWaitHighAgain) ∧
  (∀ s : State,
    exec .phWaitHighAgain s =
      .next (s.setSlot s.cur
        { phase := if (s.inp.pins s.cur).presenceN = .high then 0b0000#4 else (s.slot s.cur).phase
          entered := if (s.inp.pins s.cur).presenceN = .high then s.inp.now else (s.slot s.cur).entered
          batEn := false, busEn := true, color0 := s.cfg.colorRun2, color1 := 0x000000#24 }))

/-- R80: PH_SEQ_BOTH_1. -/
def Obligations.SeqBoth1DwellsWithBothRails : Prop :=
  (∀ (s : State) (c : SlotId), s.inp.reset = false → (s.inp.pins c).faultN = .high → (s.slot c).phase = 0b0011#4 →
    (s.inp.now - (s.slot c).entered).toNat < 5000 → fetch s c = .phSeqBoth1) ∧
  (∀ s : State,
    exec .phSeqBoth1 s =
      .next (s.setSlot s.cur
        { phase := if 500 ≤ (s.inp.now - (s.slot s.cur).entered).toNat then 0b0100#4 else (s.slot s.cur).phase
          entered := if 500 ≤ (s.inp.now - (s.slot s.cur).entered).toNat then s.inp.now else (s.slot s.cur).entered
          batEn := true, busEn := true, color0 := s.cfg.colorRun2, color1 := 0x000000#24 }))

/-- R81: PH_SEQ_BATTERY_ONLY. -/
def Obligations.SeqBatteryOnlyDwellsOnBattery : Prop :=
  (∀ (s : State) (c : SlotId), s.inp.reset = false → (s.inp.pins c).faultN = .high → (s.slot c).phase = 0b0100#4 →
    (s.inp.now - (s.slot c).entered).toNat < 5000 → fetch s c = .phSeqBatteryOnly) ∧
  (∀ s : State,
    exec .phSeqBatteryOnly s =
      .next (s.setSlot s.cur
        { phase := if 500 ≤ (s.inp.now - (s.slot s.cur).entered).toNat then 0b0101#4 else (s.slot s.cur).phase
          entered := if 500 ≤ (s.inp.now - (s.slot s.cur).entered).toNat then s.inp.now else (s.slot s.cur).entered
          batEn := true, busEn := false, color0 := s.cfg.colorRun1, color1 := 0x000000#24 }))

/-- R82: PH_SEQ_BOTH_2. -/
def Obligations.SeqBoth2DwellsWithBothRails : Prop :=
  (∀ (s : State) (c : SlotId), s.inp.reset = false → (s.inp.pins c).faultN = .high → (s.slot c).phase = 0b0101#4 →
    (s.inp.now - (s.slot c).entered).toNat < 5000 → fetch s c = .phSeqBoth2) ∧
  (∀ s : State,
    exec .phSeqBoth2 s =
      .next (s.setSlot s.cur
        { phase := if 500 ≤ (s.inp.now - (s.slot s.cur).entered).toNat then 0b0110#4 else (s.slot s.cur).phase
          entered := if 500 ≤ (s.inp.now - (s.slot s.cur).entered).toNat then s.inp.now else (s.slot s.cur).entered
          batEn := true, busEn := true, color0 := s.cfg.colorRun2, color1 := 0x000000#24 }))

/-- R83: PH_SEQ_BUS_ONLY. -/
def Obligations.SeqBusOnlyDwellsOnBus : Prop :=
  (∀ (s : State) (c : SlotId), s.inp.reset = false → (s.inp.pins c).faultN = .high → (s.slot c).phase = 0b0110#4 →
    (s.inp.now - (s.slot c).entered).toNat < 5000 → fetch s c = .phSeqBusOnly) ∧
  (∀ s : State,
    exec .phSeqBusOnly s =
      .next (s.setSlot s.cur
        { phase := if 500 ≤ (s.inp.now - (s.slot s.cur).entered).toNat then 0b0111#4 else (s.slot s.cur).phase
          entered := if 500 ≤ (s.inp.now - (s.slot s.cur).entered).toNat then s.inp.now else (s.slot s.cur).entered
          batEn := false, busEn := true, color0 := s.cfg.colorRun1, color1 := 0x000000#24 }))

/-- R90: PH_FAULT_INDICATE. A fault line that still reads low preempts it, whatever the elapsed time. -/
def Obligations.FaultIndicateReturnsAfterItsDwell : Prop :=
  (∀ (s : State) (c : SlotId), s.inp.reset = false → (s.inp.pins c).faultN = .high → (s.slot c).phase = 0b1000#4 →
    (s.inp.now - (s.slot c).entered).toNat < 5000 → fetch s c = .phFaultIndicate) ∧
  (∀ (s : State) (c : SlotId), s.inp.reset = false → (s.inp.pins c).faultN = .low → (s.slot c).phase = 0b1000#4 →
    (∃ t p, fetch s c = .faultPreempt t p) ∧
      ∃ u, slotStep c s = .next u ∧ (u.slot c).phase = 0b1000#4 ∧ (u.slot c).entered = s.inp.now) ∧
  (∀ s : State,
    let fl := if s.inp.now.toNat % 200 ≤ 100 then s.cfg.colorFail else 0x000000#24
    exec .phFaultIndicate s =
      .next (s.setSlot s.cur
        { phase := if 2000 ≤ (s.inp.now - (s.slot s.cur).entered).toNat then 0b0000#4 else (s.slot s.cur).phase
          entered := if 2000 ≤ (s.inp.now - (s.slot s.cur).entered).toNat then s.inp.now else (s.slot s.cur).entered
          batEn := false, busEn := false, color0 := fl, color1 := fl }))

/-- R91: PH_TIMEOUT_INDICATE. -/
def Obligations.TimeoutIndicateReturnsAfterItsDwell : Prop :=
  (∀ (s : State) (c : SlotId), s.inp.reset = false → (s.inp.pins c).faultN = .high → (s.slot c).phase = 0b1001#4 →
    (s.inp.now - (s.slot c).entered).toNat < 5000 → fetch s c = .phTimeoutIndicate) ∧
  (∀ s : State,
    let fl := if s.inp.now.toNat % 200 ≤ 100 then s.cfg.colorFail else 0x000000#24
    exec .phTimeoutIndicate s =
      .next (s.setSlot s.cur
        { phase := if 2000 ≤ (s.inp.now - (s.slot s.cur).entered).toNat then 0b0000#4 else (s.slot s.cur).phase
          entered := if 2000 ≤ (s.inp.now - (s.slot s.cur).entered).toNat then s.inp.now else (s.slot s.cur).entered
          batEn := false, busEn := false, color0 := fl, color1 := 0x000000#24 }))

/-- R93: the two reserved rows. They mark `ILLEGAL_PHASE` and the machine goes on; a slot fetches one of them exactly when it
holds a code 10 to 15 and neither override is selected. -/
def Obligations.ReservedPhaseMarksAndWritesNothing : Prop :=
  (∀ (s : State) (c : SlotId), s.inp.reset = false →
    (((∃ b, fetch s c = .rsvPhaseAB b) ∨ (∃ b, fetch s c = .rsvPhaseCF b)) ↔
      (10 ≤ (s.slot c).phase.toNat ∧ (s.inp.pins c).faultN = .high ∧
        (s.inp.now - (s.slot c).entered).toNat < 5000))) ∧
  (∀ (s : State) (b : Bool), exec (.rsvPhaseAB b) s = .next { s with faultMark := true }) ∧
  (∀ (s : State) (b : BitVec 2), exec (.rsvPhaseCF b) s = .next { s with faultMark := true })

/-- R130: RESET, on both slots at once, whatever their state and levels. -/
def Obligations.ResetPutsBothSlotsInIdle : Prop :=
  (∀ (s : State) (c : SlotId), s.inp.reset = true → ∃ f t p, fetch s c = .reset f t p) ∧
  (∀ (s : State) (f t : Bool) (p : PhaseCode),
    let idleSlot : Slot :=
      { phase := 0b0000#4, entered := s.inp.now, batEn := false, busEn := false, color0 := 0x000000#24, color1 := 0x000000#24 }
    exec (.reset f t p) s =
      .next { s with
        slot0 := idleSlot, slot1 := idleSlot
        frame := { w0 := 0x000000#24, w1 := 0x000000#24, w2 := 0x000000#24, w3 := 0x000000#24 }
        faultMark := false })

/-! ### Frames -/

/-- The frame of the twelve rows that write a slot (the two overrides and the ten phases): the other slot, the frame
register, the mark, the configuration, the samples, the sink, the clock record and the pending events are unchanged. -/
def Obligations.SlotRowsWriteOnlyTheirSlot : Prop :=
  ∀ (i : Instr) (s t : State),
    i.mnemonic ≠ "RESET" → i.mnemonic ≠ "RSV_PHASE_A_B" → i.mnemonic ≠ "RSV_PHASE_C_F" → exec i s = .next t →
    t.slot s.cur.other = s.slot s.cur.other ∧ t.frame = s.frame ∧ t.faultMark = s.faultMark ∧ t.cfg = s.cfg ∧
    t.inp = s.inp ∧ t.cur = s.cur ∧ t.sink = s.sink ∧ t.lastNow = s.lastNow ∧ t.lastTick = s.lastTick ∧
    t.queue = s.queue

/-- The frame of RESET and of the two reserved rows: RESET leaves the configuration, the samples and the outside world
(no `display`, R130); a reserved row leaves everything but the mark (R119). -/
def Obligations.ResetAndReservedRowsFrame : Prop :=
  ∀ (i : Instr) (s t : State), exec i s = .next t →
    (i.mnemonic = "RESET" →
      t.cfg = s.cfg ∧ t.inp = s.inp ∧ t.cur = s.cur ∧ t.sink = s.sink ∧ t.lastNow = s.lastNow ∧
      t.lastTick = s.lastTick ∧ t.queue = s.queue) ∧
    (i.mnemonic = "RSV_PHASE_A_B" ∨ i.mnemonic = "RSV_PHASE_C_F" →
      t.slot0 = s.slot0 ∧ t.slot1 = s.slot1 ∧ t.frame = s.frame ∧ t.cfg = s.cfg ∧ t.inp = s.inp ∧ t.cur = s.cur ∧
      t.sink = s.sink ∧ t.lastNow = s.lastNow ∧ t.lastTick = s.lastTick ∧ t.queue = s.queue)

/-- R23, R65: a row other than RESET leaves phase and timer base both as they were, or writes both, the timer base with
this step's `now` and the phase with the code of a named phase. -/
def Obligations.TimerBaseIsWrittenOnlyByEnter : Prop :=
  ∀ (i : Instr) (s t : State), i.mnemonic ≠ "RESET" → exec i s = .next t →
    ((t.slot s.cur).phase = (s.slot s.cur).phase ∧ (t.slot s.cur).entered = (s.slot s.cur).entered) ∨
    (∃ p : Phase, (t.slot s.cur).phase = p.code ∧ (t.slot s.cur).entered = s.inp.now)

/-! ### The step -/

/-- R60, R61: a tick that the clock contract admits runs the decoded instruction of slot 0's selector, then that of slot 1's,
then writes and hands over the frame. Around each instruction the step sets the operand `cur`; before the first it takes the
samples; after the last it sets `cur` back (log entry 3). -/
def Obligations.TickStepRunsTheDecodedInstructions : Prop :=
  ∀ (s a b : State) (m : Moment) (rest : List Event) (i0 i1 : Instr),
    s.queue = .moment m :: rest → m.tick = true → m.reset = false → clockRefusal m.now s = none →
    decode [0#1 ++ selector (State.sample { s with queue := rest } m) .slot0] = .ok (i0, []) →
    exec i0 ((State.sample { s with queue := rest } m).atSlot .slot0) = .next a →
    decode [0#1 ++ selector a .slot1] = .ok (i1, []) →
    exec i1 (a.atSlot .slot1) = .next b →
    step s =
      .next { b with
        frame := { w0 := b.slot0.color0, w1 := b.slot0.color1, w2 := b.slot1.color0, w3 := b.slot1.color1 }
        sink :=
          { shown := some { w0 := b.slot0.color0, w1 := b.slot0.color1, w2 := b.slot1.color0, w3 := b.slot1.color1 }
            strobes := b.sink.strobes + 1 }
        cur := .slot0 }

/-- R130 b: a moment with the reset event runs RESET once, with or without a tick at the same moment, and no slot's own step,
if its clock is not behind the last sample (R136). That the row run is the one decoded from slot 0's selector is the model's
choice (log entry 15). -/
def Obligations.ResetMomentRunsResetAlone : Prop :=
  ∀ (s : State) (m : Moment) (rest : List Event), s.queue = .moment m :: rest → m.reset = true → s.lastNow ≤ m.now →
    ∃ f t p,
      decode [0#1 ++ selector (State.sample { s with queue := rest } m) .slot0] = .ok (.reset f t p, []) ∧
      step s = exec (.reset f t p) ((State.sample { s with queue := rest } m).atSlot .slot0)

/-- R130, R131: what a reset event leaves, from any state and with any levels, at a clock that is not behind the last sample
(R136): every register at its reset value, and the frame `OFF` without a `display`. That its clock is the last sample, and
that the last tick stays the last tick, is the model's record of the host's contract (log entry 5). -/
def Obligations.ResetEventLeavesTheResetState : Prop :=
  ∀ (s : State) (m : Moment) (rest : List Event), s.queue = .moment m :: rest → m.reset = true → s.lastNow ≤ m.now →
    ∃ t, step s = .next t ∧
      (∀ c, t.slot c =
        { phase := 0b0000#4, entered := BitVec.ofNat 32 m.now, batEn := false, busEn := false
          color0 := 0x000000#24, color1 := 0x000000#24 }) ∧
      t.frame = { w0 := 0x000000#24, w1 := 0x000000#24, w2 := 0x000000#24, w3 := 0x000000#24 } ∧
      t.faultMark = false ∧ t.cfg = s.cfg ∧ t.sink = s.sink ∧ t.queue = rest ∧ t.lastNow = m.now ∧ t.lastTick = s.lastTick

/-- R131: the machine starts with every register at its reset value. That the first reset's clock sample is 0 is the model's
choice (log entry 1). -/
def Obligations.MachineStartsInTheResetState : Prop :=
  (∀ c, State.reset.slot c =
    { phase := 0b0000#4, entered := 0#32, batEn := false, busEn := false, color0 := 0x000000#24, color1 := 0x000000#24 }) ∧
  State.reset.frame = { w0 := 0x000000#24, w1 := 0x000000#24, w2 := 0x000000#24, w3 := 0x000000#24 } ∧
  State.reset.faultMark = false ∧ State.reset.queue = []

/-- R125: without an event the block holds its state and its outputs. -/
def Obligations.BlockHoldsItsStateBetweenEvents : Prop :=
  (∀ s : State, s.queue = [] → step s = .next s) ∧
  (∀ (s : State) (m : Moment) (rest : List Event), s.queue = .moment m :: rest → m.reset = false → m.tick = false →
    step s = .next { s with queue := rest })

/-- R60, R27: an admitted tick writes the frame register once, from the colors of the same tick, and hands exactly that frame
to the sink, whether or not a color changed. -/
def Obligations.TickWritesAndDisplaysOneFrame : Prop :=
  ∀ (s t : State) (m : Moment) (rest : List Event), s.queue = .moment m :: rest → plainTick m = true → step s = .next t →
    t.frame = { w0 := t.slot0.color0, w1 := t.slot0.color1, w2 := t.slot1.color0, w3 := t.slot1.color1 } ∧
    t.sink.shown = some t.frame ∧ t.sink.strobes = s.sink.strobes + 1 ∧ t.queue = rest ∧ t.lastNow = m.now ∧
    t.lastTick = some m.now

/-- R32, R61: the step is the document's pure transition function. After an admitted tick, a slot that held the named phase
`p` holds exactly what the precedence list and the phase list say, with the outputs of the phase whose logic ran or of the
override's target. -/
def Obligations.SlotStepIsThePureTransition : Prop :=
  ∀ (s t : State) (m : Moment) (rest : List Event) (c : SlotId) (p : Phase),
    s.queue = .moment m :: rest → plainTick m = true → step s = .next t → (s.slot c).phase = p.code →
    ∃ (q : Phase) (next : Option Phase),
      Transition p (clockWord m.now - (s.slot c).entered).toNat (m.pins c).presenceN (m.pins c).faultN q next ∧
      t.slot c =
        { phase := ((next.getD p).code)
          entered := if next.isSome then clockWord m.now else (s.slot c).entered
          batEn := (out s.cfg q (clockWord m.now)).bat
          busEn := (out s.cfg q (clockWord m.now)).bus
          color0 := (out s.cfg q (clockWord m.now)).c0
          color1 := (out s.cfg q (clockWord m.now)).c1 }

/-- R112, R114, R115: a tick whose sample of a slot's fault line is low takes the Fault class in that slot in the same tick,
whatever phase code it held, whatever the elapsed time and the presence line: the indicate phase, the timer base, both
rails off, both indicators flashing. -/
def Obligations.FaultTakesPrecedence : Prop :=
  ∀ (s t : State) (m : Moment) (rest : List Event) (c : SlotId),
    s.queue = .moment m :: rest → plainTick m = true → step s = .next t → (m.pins c).faultN = .low →
    t.slot c =
      { phase := 0b1000#4, entered := clockWord m.now, batEn := false, busEn := false
        color0 := flash s.cfg (clockWord m.now), color1 := flash s.cfg (clockWord m.now) }

/-- R64, R113: with no fault, a slot outside `WAIT_LOW` is forced to `TIMEOUT_INDICATE`, both rails off, when its elapsed time
is 5000 ms or more, and never before; from `WAIT_LOW` it never is. -/
def Obligations.TimeoutFiresAtFiveSecondsAndNotBefore : Prop :=
  ∀ (s t : State) (m : Moment) (rest : List Event) (c : SlotId),
    s.queue = .moment m :: rest → plainTick m = true → step s = .next t → (m.pins c).faultN = .high →
    ((s.slot c).phase ≠ 0b0000#4 → 5000 ≤ (clockWord m.now - (s.slot c).entered).toNat →
      t.slot c =
        { phase := 0b1001#4, entered := clockWord m.now, batEn := false, busEn := false
          color0 := flash s.cfg (clockWord m.now), color1 := 0x000000#24 }) ∧
    ((s.slot c).phase ≠ 0b1001#4 →
      ((s.slot c).phase = 0b0000#4 ∨ (clockWord m.now - (s.slot c).entered).toNat < 5000) →
      (t.slot c).phase ≠ 0b1001#4)

/-- R134: on a transition made by phase logic the outputs of the tick are still the old phase's, and they become the new
phase's at the next tick that no override takes. -/
def Obligations.OutputsLagOneTick : Prop :=
  ∀ (s t u : State) (m n : Moment) (rest : List Event) (c : SlotId) (p q : Phase),
    s.queue = .moment m :: .moment n :: rest → plainTick m = true → plainTick n = true →
    step s = .next t → step t = .next u →
    (s.slot c).phase = p.code → (t.slot c).phase = q.code →
    (m.pins c).faultN = .high → (p = .waitLow ∨ (clockWord m.now - (s.slot c).entered).toNat < 5000) →
    (n.pins c).faultN = .high → (q = .waitLow ∨ (clockWord n.now - (t.slot c).entered).toNat < 5000) →
    ((t.slot c).batEn = (out s.cfg p (clockWord m.now)).bat ∧ (t.slot c).busEn = (out s.cfg p (clockWord m.now)).bus ∧
      (t.slot c).color0 = (out s.cfg p (clockWord m.now)).c0 ∧ (t.slot c).color1 = (out s.cfg p (clockWord m.now)).c1) ∧
    ((u.slot c).batEn = (out s.cfg q (clockWord n.now)).bat ∧ (u.slot c).busEn = (out s.cfg q (clockWord n.now)).bus ∧
      (u.slot c).color0 = (out s.cfg q (clockWord n.now)).c0 ∧ (u.slot c).color1 = (out s.cfg q (clockWord n.now)).c1)

/-- R85, R138: a dwell of a `SEQ_*` phase ends at the first tick at or after `entered + 500`. `te` is the true time of entry;
the tick before came before the deadline. A tick before the deadline leaves phase and timer; the tick at or after it, if it
comes before the global timeout, moves to the next phase at that tick's time. -/
def Obligations.DwellEndsAtTheFirstTickAfterItsDeadline : Prop :=
  ∀ (s t : State) (m : Moment) (rest : List Event) (c : SlotId) (p : Phase) (te : Nat),
    s.queue = .moment m :: rest → plainTick m = true → step s = .next t →
    (s.slot c).phase = p.code → p ∈ [Phase.seqBoth1, .seqBatteryOnly, .seqBoth2, .seqBusOnly] →
    (s.slot c).entered = clockWord te → te ≤ m.now → (m.pins c).faultN = .high →
    (m.now < te + 500 → (t.slot c).phase = p.code ∧ (t.slot c).entered = clockWord te) ∧
    (te + 500 ≤ m.now → m.now < te + 5000 →
      (t.slot c).phase = (successor p).code ∧ (t.slot c).entered = clockWord m.now)

/-! ### Stops -/

/-- Exactly when the step refuses, and why: all of it is the outside world's doing (93_implementation_defined.md; R110, R136,
R140). A clock that goes back is refused at a tick and at a reset, and a long gap between two ticks in every phase. That a
RESET between two ticks does not end the gap is the model's reading (log entry 5). -/
def Obligations.StepRefusesOnlyOutOfContractEvents : Prop :=
  ∀ (s : State) (r : Refusal), step s = .refused r ↔
    (r = .portFailure ∧ ∃ rest, s.queue = .portFailure :: rest) ∨
    (r = .consoleWrite ∧ ∃ rest, s.queue = .consoleWrite :: rest) ∨
    (∃ (m : Moment) (rest : List Event), s.queue = .moment m :: rest ∧
      ((r = .clockDecreased ∧ (m.reset = true ∨ m.tick = true) ∧ m.now < s.lastNow) ∨
       (r = .tickGapTooLong ∧ plainTick m = true ∧ s.lastNow ≤ m.now ∧
         ∃ u, s.lastTick = some u ∧ 2 ^ 32 - 5000 ≤ m.now - u)))

/-- R133, R136: while the host keeps its contract the machine goes on, for any number of steps. The contract binds a RESET's
clock as it does a tick's, and a RESET between two ticks does not end the gap between them (log entry 5). -/
def Obligations.HonouredRunNeverStops : Prop :=
  ∀ (s : State) (k : Nat), honours s.lastNow s.lastTick s.queue = true → ∃ t, runFor k s = .next t

/-! ### Invariants of every step -/

/-- R22: the reserved codes stay unreachable. -/
def Obligations.StepKeepsLegalPhases : Prop :=
  ∀ s t : State, LegalPhases s → step s = .next t → LegalPhases t

/-- R119: a machine whose phases are legal is never marked by a step. -/
def Obligations.StepKeepsTheMarkClear : Prop :=
  ∀ s t : State, Unmarked s → step s = .next t → Unmarked t

/-- R27: the frame register holds the four color registers after every step, legal phases or not. -/
def Obligations.StepKeepsTheFrameCurrent : Prop :=
  ∀ s t : State, FrameCurrent s → step s = .next t → FrameCurrent t

/-- R33, R84, R134: the rails a slot holds always fit the phase it holds, or the one it was entered from. -/
def Obligations.StepKeepsTheRailsInStep : Prop :=
  ∀ s t : State, RailsFollow s → step s = .next t → RailsFollow t

/-- The machine starts in all of these invariants. -/
def Obligations.ResetMeetsTheInvariants : Prop :=
  Unmarked State.reset ∧ FrameCurrent State.reset ∧ RailsFollow State.reset

/-- R34, R119, R130: the mark after a step. A tick keeps it if it is set and sets it exactly when some slot held a reserved
code and took no override; RESET clears it; anything else leaves it. -/
def Obligations.FaultMarkIsStickyUntilReset : Prop :=
  ∀ (s t : State), step s = .next t →
    (∀ (m : Moment) (rest : List Event), s.queue = .moment m :: rest → plainTick m = true →
      (t.faultMark = true ↔
        (s.faultMark = true ∨
          ∃ c, 10 ≤ (s.slot c).phase.toNat ∧ (m.pins c).faultN = .high ∧
            (clockWord m.now - (s.slot c).entered).toNat < 5000))) ∧
    (∀ (m : Moment) (rest : List Event), s.queue = .moment m :: rest → m.reset = true → t.faultMark = false) ∧
    ((∀ (m : Moment) (rest : List Event), s.queue = .moment m :: rest → m.reset = false ∧ m.tick = false) →
      t.faultMark = s.faultMark)

/-- R31: no step writes the configuration. -/
def Obligations.ConfigurationIsNeverWritten : Prop :=
  ∀ (s t : State) (k : Nat), runFor k s = .next t → t.cfg = s.cfg

/-! ### The two slots -/

/-- R4, R112, R123: a slot after a tick depends only on that slot's own registers, its own two lines, the shared clock and the
configuration: two machines that agree on these agree on the slot after the tick, whatever the other slot does. -/
def Obligations.SlotsAreIndependent : Prop :=
  ∀ (s s' t t' : State) (m m' : Moment) (rest rest' : List Event) (c : SlotId),
    s.queue = .moment m :: rest → s'.queue = .moment m' :: rest' → plainTick m = true → plainTick m' = true →
    step s = .next t → step s' = .next t' →
    s.slot c = s'.slot c → s.cfg = s'.cfg → m.now = m'.now → m.pins c = m'.pins c →
    t.slot c = t'.slot c

/-- R20, R105: nothing else is stored. Two machines whose slot holds the same named phase and the same timer base agree on all
of that slot's registers after a tick, whatever its outputs, the frame, the sink and the scratch fields held before. -/
def Obligations.OutputsNeverDependOnHistory : Prop :=
  ∀ (s s' t t' : State) (m m' : Moment) (rest rest' : List Event) (c : SlotId) (p : Phase),
    s.queue = .moment m :: rest → s'.queue = .moment m' :: rest' → plainTick m = true → plainTick m' = true →
    step s = .next t → step s' = .next t' →
    (s.slot c).phase = p.code → (s'.slot c).phase = p.code → (s.slot c).entered = (s'.slot c).entered →
    s.cfg = s'.cfg → m.now = m'.now → m.pins c = m'.pins c →
    t.slot c = t'.slot c

/-- R47: the order of the two slot steps cannot be observed: slot 1 first gives the same state. -/
def Obligations.SlotOrderIsNotObservable : Prop :=
  ∀ s : State, s.inp.reset = false →
    ∃ a b a' b',
      slotStep .slot0 s = .next a ∧ slotStep .slot1 a = .next b ∧
      slotStep .slot1 s = .next a' ∧ slotStep .slot0 a' = .next b' ∧
      handFrame b = handFrame b'

/-! ### The walk -/

/-- R84: during the rail walk, with no override, at most one rail changes from one tick to the next, and at least one rail is
on before and after the tick: the device is never left unpowered. -/
def Obligations.RailWalkNeverDropsPower : Prop :=
  ∀ (s t : State) (m : Moment) (rest : List Event) (c : SlotId) (p : Phase),
    RailsFollow s → s.queue = .moment m :: rest → plainTick m = true → step s = .next t →
    (s.slot c).phase = p.code → p ∈ [Phase.seqBoth1, .seqBatteryOnly, .seqBoth2, .seqBusOnly] →
    (m.pins c).faultN = .high → (clockWord m.now - (s.slot c).entered).toNat < 5000 →
    ((s.slot c).batEn = true ∨ (s.slot c).busEn = true) ∧
    ((t.slot c).batEn = true ∨ (t.slot c).busEn = true) ∧
    ((t.slot c).batEn = (s.slot c).batEn ∨ (t.slot c).busEn = (s.slot c).busEn)

/-- R74: the debounce. However long the run, from the idle phase a slot only reaches `SEQ_BOTH_1` after its ticks sampled
presence low, then high, then low again, in that order. -/
def Obligations.DebounceNeedsLowHighLow : Prop :=
  ∀ (s t : State) (k : Nat) (c : SlotId),
    (s.slot c).phase = 0b0000#4 → runFor k s = .next t → (t.slot c).phase = 0b0011#4 →
    [Level.low, Level.high, Level.low].Sublist (tickLevels c (s.queue.take k))

/-- R117, R137: however long a fault stays low at every tick, it holds the slot in `FAULT_INDICATE` with both rails off, the
dwell starting again at every tick; once the line is high, the slot leaves at the first tick 2000 ms or more after the last
tick that saw it low. `ms` and `m` are the ticks that see it low, `m` the last; `ns` are the ticks before the dwell is over, `x`
the first after. `x` comes before the global timeout would (R138). -/
def Obligations.SustainedFaultHoldsTheSlot : Prop :=
  ∀ (s t u : State) (ms ns : List Moment) (m x : Moment) (rest : List Event) (c : SlotId),
    s.queue = (ms ++ [m] ++ (ns ++ [x])).map Event.moment ++ rest →
    (∀ n ∈ ms ++ [m], plainTick n = true ∧ (n.pins c).faultN = .low) →
    (∀ n ∈ ns ++ [x], plainTick n = true ∧ (n.pins c).faultN = .high) →
    (∀ n ∈ ns, n.now < m.now + 2000) → m.now + 2000 ≤ x.now → x.now < m.now + 5000 →
    runFor (ms.length + 1) s = .next t → runFor (ns.length + 1) t = .next u →
    ((t.slot c).phase = 0b1000#4 ∧ (t.slot c).batEn = false ∧ (t.slot c).busEn = false ∧
      (t.slot c).entered = clockWord m.now) ∧
    ((u.slot c).phase = 0b0000#4 ∧ (u.slot c).batEn = false ∧ (u.slot c).busEn = false ∧
      (u.slot c).entered = clockWord x.now)

/-- R92: recovery. From an indicate phase entered at true time `te`, with no fault seen and ticks at most 2000 ms apart, the slot
is in `WAIT_LOW` with both rails off after the first tick at or after `te + 2000`, and drives the bus rail at the next tick.
`ms` are the ticks before the deadline, `m` the first at or after it, `n` the next. -/
def Obligations.RecoveryReturnsToIdle : Prop :=
  ∀ (s t u : State) (ms : List Moment) (m n : Moment) (rest : List Event) (c : SlotId) (te : Nat),
    (s.slot c).phase = 0b1000#4 ∨ (s.slot c).phase = 0b1001#4 →
    (s.slot c).entered = clockWord te → te ≤ s.lastNow → s.lastNow < te + 2000 →
    s.queue = (ms ++ [m, n]).map Event.moment ++ rest →
    (∀ x ∈ ms ++ [m, n], plainTick x = true ∧ (x.pins c).faultN = .high) →
    (∀ x ∈ ms, x.now < te + 2000) → te + 2000 ≤ m.now → m.now ≤ ((ms.map Moment.now).getLast?.getD s.lastNow) + 2000 →
    runFor (ms.length + 1) s = .next t → step t = .next u →
    ((t.slot c).phase = 0b0000#4 ∧ (t.slot c).entered = clockWord m.now ∧
      (t.slot c).batEn = false ∧ (t.slot c).busEn = false) ∧
    ((u.slot c).batEn = false ∧ (u.slot c).busEn = true)

/-! ### The outside world -/

/-- The host's word placement: from every state, for every selector word, the next step runs, in both slots, a row with the
mnemonic the decoder reads from the word, and it answers a next state. The placement is the model's choice (log entries 6
and 8). -/
def Obligations.PlacedWordRunsNext : Prop :=
  ∀ (s : State) (w : Nat), w < 128 →
    ∃ i t m, decodeTableWord 8 w = some i ∧ step (s.withFetchWord 8 w) = .next t ∧
      (s.withFetchWord 8 w).queue = .moment m :: s.queue ∧
      ∀ c, (fetch (State.sample { s.withFetchWord 8 w with queue := s.queue } m) c).mnemonic = i.mnemonic

/-- R57: what each stimulus line lowers to. RESET: one reset moment. TICK: one tick moment with the levels given, 1 where one
is omitted. REPEAT TICK: the ticks at `t0`, `t0 + d`, and so on, up to the largest `t0 + k*d` that is at most `t1`, which is
what the same TICK lines written out lower to. EXPECT: nothing. That a clock word stands for the first true time at or after
the last one is the model's choice, and so is a REPEAT of no tick (log entry 11). -/
def Obligations.StimulusLinesLowerAsWritten : Prop :=
  (∀ (last : Nat) (w : Time), last ≤ unwrap last w ∧ clockWord (unwrap last w) = w ∧ unwrap last w < last + 2 ^ 32) ∧
  (∀ (last : Nat) (w : Time),
    let idle : PinLevels := { presenceN := .high, faultN := .high }
    lineEvents last (.reset w) =
      ([.moment { reset := true, tick := false, now := unwrap last w, pins0 := idle, pins1 := idle }], unwrap last w)) ∧
  (∀ (last : Nat) (w : Time) (l : LineLevels),
    lineEvents last (.tick w l) =
      ([.moment
          { reset := false, tick := true, now := unwrap last w
            pins0 := { presenceN := l.p0.getD .high, faultN := l.f0.getD .high }
            pins1 := { presenceN := l.p1.getD .high, faultN := l.f1.getD .high } }],
       unwrap last w)) ∧
  (∀ (last : Nat) (t0 t1 : Time) (d : Nat) (l : LineLevels), 0 < d → t0.toNat ≤ t1.toNat →
    lineEvents last (.repeatTick t0 t1 d l) =
      ((repeatTimes t0.toNat t1.toNat d).map fun w =>
          .moment
            { reset := false, tick := true, now := unwrap last t0 + (w - t0.toNat)
              pins0 := { presenceN := l.p0.getD .high, faultN := l.f0.getD .high }
              pins1 := { presenceN := l.p1.getD .high, faultN := l.f1.getD .high } },
       unwrap last t0 + (t1.toNat - t0.toNat) / d * d) ∧
    (∀ w ∈ repeatTimes t0.toNat t1.toNat d, clockWord (unwrap last t0 + (w - t0.toNat)) = BitVec.ofNat 32 w)) ∧
  (∀ (last : Nat) (t0 t1 : Time) (d : Nat) (l : LineLevels),
    (lineEvents last (.repeatTick t0 t1 d l)).1 =
      programEvents last ((repeatTimes t0.toNat t1.toNat d).map fun w => .tick (BitVec.ofNat 32 w) l) ∧
    (d = 0 ∨ t1.toNat < t0.toNat → lineEvents last (.repeatTick t0 t1 d l) = ([], last))) ∧
  (∀ t0 t1 d x : Nat, 0 < d → (x ∈ repeatTimes t0 t1 d ↔ ∃ k, x = t0 + k * d ∧ x ≤ t1)) ∧
  (∀ t0 t1 d : Nat, (repeatTimes t0 t1 d).Pairwise (· < ·)) ∧
  (∀ (last : Nat) (as : List Assertion), lineEvents last (.expect as) = ([], last))
end

