-- ==== Sys2Proof/Laws/State.lean ====
section
/-! SUPPORT. One lemma per field and update of the state, so that no later proof unfolds a record update. -/

namespace Sys2Proof.Machine

variable (s : State) (c d : SlotId) (v : Slot) (m : Moment)

/-! ### setSlot -/

@[simp] theorem State.slot_zero : s.slot .slot0 = s.slot0 := rfl
@[simp] theorem State.slot_one : s.slot .slot1 = s.slot1 := rfl
@[simp] theorem Moment.pins_zero : m.pins .slot0 = m.pins0 := rfl
@[simp] theorem Moment.pins_one : m.pins .slot1 = m.pins1 := rfl

@[simp] theorem State.slot_setSlot_same : (s.setSlot c v).slot c = v := by cases c <;> rfl

theorem State.slot_setSlot_of_ne (h : d ≠ c) : (s.setSlot c v).slot d = s.slot d := by
  cases c <;> cases d <;> first | rfl | exact absurd rfl h

@[simp] theorem State.slot_setSlot_other : (s.setSlot c v).slot c.other = s.slot c.other := by cases c <;> rfl

@[simp] theorem State.setSlot_slot0 : (s.setSlot .slot0 v).slot0 = v := rfl
@[simp] theorem State.setSlot_slot0_of_one : (s.setSlot .slot1 v).slot0 = s.slot0 := rfl
@[simp] theorem State.setSlot_slot1 : (s.setSlot .slot1 v).slot1 = v := rfl
@[simp] theorem State.setSlot_slot1_of_zero : (s.setSlot .slot0 v).slot1 = s.slot1 := rfl
@[simp] theorem State.setSlot_frame : (s.setSlot c v).frame = s.frame := by cases c <;> rfl
@[simp] theorem State.setSlot_faultMark : (s.setSlot c v).faultMark = s.faultMark := by cases c <;> rfl
@[simp] theorem State.setSlot_cfg : (s.setSlot c v).cfg = s.cfg := by cases c <;> rfl
@[simp] theorem State.setSlot_inp : (s.setSlot c v).inp = s.inp := by cases c <;> rfl
@[simp] theorem State.setSlot_cur : (s.setSlot c v).cur = s.cur := by cases c <;> rfl
@[simp] theorem State.setSlot_sink : (s.setSlot c v).sink = s.sink := by cases c <;> rfl
@[simp] theorem State.setSlot_lastNow : (s.setSlot c v).lastNow = s.lastNow := by cases c <;> rfl
@[simp] theorem State.setSlot_lastTick : (s.setSlot c v).lastTick = s.lastTick := by cases c <;> rfl
@[simp] theorem State.setSlot_queue : (s.setSlot c v).queue = s.queue := by cases c <;> rfl

/-! ### atSlot -/

@[simp] theorem State.atSlot_cur : (s.atSlot c).cur = c := rfl
@[simp] theorem State.atSlot_slot : (s.atSlot c).slot d = s.slot d := by cases d <;> rfl
@[simp] theorem State.atSlot_slot0 : (s.atSlot c).slot0 = s.slot0 := rfl
@[simp] theorem State.atSlot_slot1 : (s.atSlot c).slot1 = s.slot1 := rfl
@[simp] theorem State.atSlot_frame : (s.atSlot c).frame = s.frame := rfl
@[simp] theorem State.atSlot_faultMark : (s.atSlot c).faultMark = s.faultMark := rfl
@[simp] theorem State.atSlot_cfg : (s.atSlot c).cfg = s.cfg := rfl
@[simp] theorem State.atSlot_inp : (s.atSlot c).inp = s.inp := rfl
@[simp] theorem State.atSlot_sink : (s.atSlot c).sink = s.sink := rfl
@[simp] theorem State.atSlot_lastNow : (s.atSlot c).lastNow = s.lastNow := rfl
@[simp] theorem State.atSlot_lastTick : (s.atSlot c).lastTick = s.lastTick := rfl
@[simp] theorem State.atSlot_queue : (s.atSlot c).queue = s.queue := rfl

/-! ### sample -/

@[simp] theorem State.sample_slot : (s.sample m).slot c = s.slot c := by cases c <;> rfl
@[simp] theorem State.sample_slot0 : (s.sample m).slot0 = s.slot0 := rfl
@[simp] theorem State.sample_slot1 : (s.sample m).slot1 = s.slot1 := rfl
@[simp] theorem State.sample_frame : (s.sample m).frame = s.frame := rfl
@[simp] theorem State.sample_faultMark : (s.sample m).faultMark = s.faultMark := rfl
@[simp] theorem State.sample_cfg : (s.sample m).cfg = s.cfg := rfl
@[simp] theorem State.sample_cur : (s.sample m).cur = s.cur := rfl
@[simp] theorem State.sample_sink : (s.sample m).sink = s.sink := rfl
@[simp] theorem State.sample_lastNow : (s.sample m).lastNow = m.now := rfl
@[simp] theorem State.sample_lastTick : (s.sample m).lastTick = if m.reset then s.lastTick else some m.now := rfl
@[simp] theorem State.sample_queue : (s.sample m).queue = s.queue := rfl
@[simp] theorem State.sample_reset : (s.sample m).inp.reset = m.reset := rfl
@[simp] theorem State.sample_now : (s.sample m).inp.now = clockWord m.now := rfl
@[simp] theorem State.sample_pins : (s.sample m).inp.pins c = m.pins c := by cases c <;> rfl
@[simp] theorem State.sample_presence : (s.sample m).presence c = (m.pins c).presenceN := by cases c <;> rfl
@[simp] theorem State.sample_faultLine : (s.sample m).faultLine c = (m.pins c).faultN := by cases c <;> rfl

/-! ### enter and writeOut on a slot -/

variable (p : Phase) (t : Time) (o : OutRow)

@[simp] theorem enter_phase : (enter p t v).phase = p.code := rfl
@[simp] theorem enter_entered : (enter p t v).entered = t := rfl
@[simp] theorem enter_batEn : (enter p t v).batEn = v.batEn := rfl
@[simp] theorem enter_busEn : (enter p t v).busEn = v.busEn := rfl
@[simp] theorem enter_color0 : (enter p t v).color0 = v.color0 := rfl
@[simp] theorem enter_color1 : (enter p t v).color1 = v.color1 := rfl
@[simp] theorem writeOut_phase : (writeOut o v).phase = v.phase := rfl
@[simp] theorem writeOut_entered : (writeOut o v).entered = v.entered := rfl
@[simp] theorem writeOut_batEn : (writeOut o v).batEn = o.bat := rfl
@[simp] theorem writeOut_busEn : (writeOut o v).busEn = o.bus := rfl
@[simp] theorem writeOut_color0 : (writeOut o v).color0 = o.c0 := rfl
@[simp] theorem writeOut_color1 : (writeOut o v).color1 = o.c1 := rfl

/-! ### raiseIllegalPhase -/

@[simp] theorem raiseIllegalPhase_faultMark : (raiseIllegalPhase s).faultMark = true := rfl
@[simp] theorem raiseIllegalPhase_slot : (raiseIllegalPhase s).slot c = s.slot c := by cases c <;> rfl
@[simp] theorem raiseIllegalPhase_slot0 : (raiseIllegalPhase s).slot0 = s.slot0 := rfl
@[simp] theorem raiseIllegalPhase_slot1 : (raiseIllegalPhase s).slot1 = s.slot1 := rfl
@[simp] theorem raiseIllegalPhase_frame : (raiseIllegalPhase s).frame = s.frame := rfl
@[simp] theorem raiseIllegalPhase_cfg : (raiseIllegalPhase s).cfg = s.cfg := rfl
@[simp] theorem raiseIllegalPhase_inp : (raiseIllegalPhase s).inp = s.inp := rfl
@[simp] theorem raiseIllegalPhase_cur : (raiseIllegalPhase s).cur = s.cur := rfl
@[simp] theorem raiseIllegalPhase_sink : (raiseIllegalPhase s).sink = s.sink := rfl
@[simp] theorem raiseIllegalPhase_lastNow : (raiseIllegalPhase s).lastNow = s.lastNow := rfl
@[simp] theorem raiseIllegalPhase_lastTick : (raiseIllegalPhase s).lastTick = s.lastTick := rfl
@[simp] theorem raiseIllegalPhase_queue : (raiseIllegalPhase s).queue = s.queue := rfl

/-! ### resetBlock -/

@[simp] theorem resetBlock_slot : (resetBlock s).slot c = Slot.afterReset s.inp.now := by cases c <;> rfl
@[simp] theorem resetBlock_slot0 : (resetBlock s).slot0 = Slot.afterReset s.inp.now := rfl
@[simp] theorem resetBlock_slot1 : (resetBlock s).slot1 = Slot.afterReset s.inp.now := rfl
@[simp] theorem resetBlock_frame : (resetBlock s).frame = Frame.allOff := rfl
@[simp] theorem resetBlock_faultMark : (resetBlock s).faultMark = false := rfl
@[simp] theorem resetBlock_cfg : (resetBlock s).cfg = s.cfg := rfl
@[simp] theorem resetBlock_inp : (resetBlock s).inp = s.inp := rfl
@[simp] theorem resetBlock_cur : (resetBlock s).cur = s.cur := rfl
@[simp] theorem resetBlock_sink : (resetBlock s).sink = s.sink := rfl
@[simp] theorem resetBlock_lastNow : (resetBlock s).lastNow = s.lastNow := rfl
@[simp] theorem resetBlock_lastTick : (resetBlock s).lastTick = s.lastTick := rfl
@[simp] theorem resetBlock_queue : (resetBlock s).queue = s.queue := rfl

/-! ### handFrame -/

@[simp] theorem handFrame_slot : (handFrame s).slot c = s.slot c := by cases c <;> rfl
@[simp] theorem handFrame_slot0 : (handFrame s).slot0 = s.slot0 := rfl
@[simp] theorem handFrame_slot1 : (handFrame s).slot1 = s.slot1 := rfl
@[simp] theorem handFrame_frame : (handFrame s).frame = frameOf s := rfl
@[simp] theorem handFrame_faultMark : (handFrame s).faultMark = s.faultMark := rfl
@[simp] theorem handFrame_cfg : (handFrame s).cfg = s.cfg := rfl
@[simp] theorem handFrame_inp : (handFrame s).inp = s.inp := rfl
@[simp] theorem handFrame_cur : (handFrame s).cur = .slot0 := rfl
@[simp] theorem handFrame_shown : (handFrame s).sink.shown = some (frameOf s) := rfl
@[simp] theorem handFrame_strobes : (handFrame s).sink.strobes = s.sink.strobes + 1 := rfl
@[simp] theorem handFrame_lastNow : (handFrame s).lastNow = s.lastNow := rfl
@[simp] theorem handFrame_lastTick : (handFrame s).lastTick = s.lastTick := rfl
@[simp] theorem handFrame_queue : (handFrame s).queue = s.queue := rfl

end Sys2Proof.Machine
end

