-- ==== Sys2Proof/Laws/Conditions.lean ====
section
/-! SUPPORT. What each condition signal says, and what the dwell and presence tests answer. -/

namespace Sys2Proof.Machine

variable (s : State) (c : SlotId)

@[simp] theorem atLeast_eq_true (x : Time) (k : Nat) : atLeast x k = true ↔ k ≤ x.toNat := by
  simp only [atLeast, decide_eq_true_eq]

@[simp] theorem atLeast_eq_false (x : Time) (k : Nat) : atLeast x k = false ↔ x.toNat < k := by
  simp only [atLeast, decide_eq_false_iff_not, Nat.not_le]

@[simp] theorem faulted_eq_true : faulted s c = true ↔ s.faultLine c = .low := by
  simp only [faulted, decide_eq_true_eq]

@[simp] theorem faulted_eq_false : faulted s c = false ↔ s.faultLine c = .high := by
  simp only [faulted, decide_eq_false_iff_not]
  cases s.faultLine c <;> simp

@[simp] theorem presLow_eq_true : presLow s c = true ↔ s.presence c = .low := by
  simp only [presLow, decide_eq_true_eq]

@[simp] theorem presHigh_eq_true : presHigh s c = true ↔ s.presence c = .high := by
  simp only [presHigh, decide_eq_true_eq]

@[simp] theorem dwellDone_eq_true (d : Nat) : dwellDone s c d = true ↔ d ≤ (elapsed s c).toNat := by
  simp only [dwellDone, atLeast_eq_true]

theorem timeoutCond_eq_true :
    timeoutCond s c = true ↔ (s.slot c).phase ≠ Phase.waitLow.code ∧ 5000 ≤ (elapsed s c).toNat := by
  simp only [timeoutCond, Bool.and_eq_true, atLeast_eq_true, bne_iff_ne]

theorem timeoutCond_eq_false :
    timeoutCond s c = false ↔ (s.slot c).phase = Phase.waitLow.code ∨ (elapsed s c).toNat < 5000 := by
  rw [← Bool.not_eq_true, timeoutCond_eq_true, not_and_or, not_not, Nat.not_le]

@[simp] theorem flashLit_eq_true (t : Time) : flashLit t = true ↔ t.toNat % 200 ≤ 100 := by
  simp only [flashLit, decide_eq_true_eq]

/-- The flash color, as a condition on the clock word. -/
theorem flash_eq (cfg : Configuration) (t : Time) :
    flash cfg t = if t.toNat % 200 ≤ 100 then cfg.colorFail else 0x000000#24 := by
  simp only [flash, flashLit_eq_true]

theorem elapsed_eq : elapsed s c = s.inp.now - (s.slot c).entered := rfl

@[simp] theorem elapsed_atSlot (d : SlotId) : elapsed (s.atSlot d) c = elapsed s c := by cases c <;> rfl

@[simp] theorem elapsed_sample (m : Moment) : elapsed (s.sample m) c = clockWord m.now - (s.slot c).entered := by
  cases c <;> rfl

end Sys2Proof.Machine
end

