-- ==== Sys2Proof/Laws/Encoding.lean ====
section
/-! SUPPORT. Lemmas of the phase code and the selector's fields. -/

namespace Sys2Proof

/-- A phase's code names that phase. -/
@[simp] theorem Phase.ofCode_code (p : Phase) : Phase.ofCode p.code = some p := by cases p <;> rfl

/-- A code that names a phase is that phase's code. -/
theorem Phase.code_of_ofCode {c : PhaseCode} {p : Phase} (h : Phase.ofCode c = some p) : c = p.code := by
  revert c; cases p <;> decide

/-- A code names no phase exactly when it is one of 10 to 15 (R21). -/
theorem Phase.ofCode_none_iff (c : PhaseCode) : Phase.ofCode c = none ↔ 10 ≤ c.toNat := by
  revert c; decide

@[simp] theorem selR_pack (r f t : Bool) (p : PhaseCode) : selR (packSelector r f t p) = r := by
  cases r <;> cases f <;> cases t <;> revert p <;> decide

@[simp] theorem selF_pack (r f t : Bool) (p : PhaseCode) : selF (packSelector r f t p) = f := by
  cases r <;> cases f <;> cases t <;> revert p <;> decide

@[simp] theorem selT_pack (r f t : Bool) (p : PhaseCode) : selT (packSelector r f t p) = t := by
  cases r <;> cases f <;> cases t <;> revert p <;> decide

@[simp] theorem selP_pack (r f t : Bool) (p : PhaseCode) : selP (packSelector r f t p) = p := by
  cases r <;> cases f <;> cases t <;> revert p <;> decide

/-- What a packed selector decodes to: reset, then fault, then timeout, then the phase row (R53). -/
theorem decodeSelector_pack (r f t : Bool) (p : PhaseCode) :
    decodeSelector (packSelector r f t p) =
      if r then .reset f t p else if f then .faultPreempt t p else if t then .globalTimeout p else decodePhaseRow p := by
  simp only [decodeSelector, selR_pack, selF_pack, selT_pack, selP_pack]

end Sys2Proof
end

