-- ==== Sys2Proof/Laws/Exec.lean ====
section
/-! SUPPORT. What a meaning can do, said once: the shared operations' spec lemmas and the inversion of exec. -/

namespace Sys2Proof.Machine

/-- The slot a phase's step leaves: phase and timer base as `next` says, the outputs of `q`. -/
theorem runPhase_slot (q : Phase) (next : Option Phase) (s : State) :
    (runPhase q next s).slot s.cur =
      { phase := (next.map Phase.code).getD s.curSlot.phase
        entered := if next.isSome then s.inp.now else s.curSlot.entered
        batEn := (out s.cfg q s.inp.now).bat, busEn := (out s.cfg q s.inp.now).bus
        color0 := (out s.cfg q s.inp.now).c0, color1 := (out s.cfg q s.inp.now).c1 } := by
  cases next <;> simp [runPhase, writeOut, enter]

/-- A phase's step writes the slot it runs on and nothing else. -/
theorem runPhase_eq_setSlot (q : Phase) (next : Option Phase) (s : State) :
    ∃ v, runPhase q next s = s.setSlot s.cur v := ⟨_, rfl⟩

/-- The slot that taking an error class leaves (R115). -/
theorem takeError_slot (e : ErrorClass) (s : State) :
    (takeError e s).slot s.cur =
      { phase := (indicatePhase e).code, entered := s.inp.now
        batEn := (out s.cfg (indicatePhase e) s.inp.now).bat, busEn := (out s.cfg (indicatePhase e) s.inp.now).bus
        color0 := (out s.cfg (indicatePhase e) s.inp.now).c0, color1 := (out s.cfg (indicatePhase e) s.inp.now).c1 } := by
  simp [takeError, writeOut, enter]

/-- Taking an error class writes the slot it runs on and nothing else. -/
theorem takeError_eq_setSlot (e : ErrorClass) (s : State) : ∃ v, takeError e s = s.setSlot s.cur v := ⟨_, rfl⟩

theorem whenPresence_eq_some {l : Level} {p q : Phase} {s : State} :
    whenPresence l p s = some q ↔ s.presence s.cur = l ∧ p = q := by
  simp [whenPresence]

theorem whenDwell_eq_some {d : Nat} {p q : Phase} {s : State} :
    whenDwell d p s = some q ↔ d ≤ (elapsed s s.cur).toNat ∧ p = q := by
  simp [whenDwell]

/-- Every instruction answers a next state, in every state: nothing in the block stops it. Inverted, a meaning is one of
three things: RESET of the block, a write of the current slot, or the mark of `ILLEGAL_PHASE`. -/
theorem exec_cases (i : Instr) (s : State) :
    (∃ f t p, i = .reset f t p ∧ exec i s = .next (resetBlock s)) ∨
    (i.mnemonic ≠ "RESET" ∧ ∃ v, exec i s = .next (s.setSlot s.cur v)) ∨
    ((i.mnemonic = "RSV_PHASE_A_B" ∨ i.mnemonic = "RSV_PHASE_C_F") ∧ exec i s = .next (raiseIllegalPhase s)) := by
  cases i with
  | reset f t p => exact .inl ⟨f, t, p, rfl, rfl⟩
  | faultPreempt => exact .inr (.inl ⟨by simp [Instr.mnemonic], _, rfl⟩)
  | globalTimeout => exact .inr (.inl ⟨by simp [Instr.mnemonic], _, rfl⟩)
  | phWaitLow => exact .inr (.inl ⟨by decide, _, rfl⟩)
  | phWaitHigh => exact .inr (.inl ⟨by decide, _, rfl⟩)
  | phWaitLowAgain => exact .inr (.inl ⟨by decide, _, rfl⟩)
  | phSeqBoth1 => exact .inr (.inl ⟨by decide, _, rfl⟩)
  | phSeqBatteryOnly => exact .inr (.inl ⟨by decide, _, rfl⟩)
  | phSeqBoth2 => exact .inr (.inl ⟨by decide, _, rfl⟩)
  | phSeqBusOnly => exact .inr (.inl ⟨by decide, _, rfl⟩)
  | phWaitHighAgain => exact .inr (.inl ⟨by decide, _, rfl⟩)
  | phFaultIndicate => exact .inr (.inl ⟨by decide, _, rfl⟩)
  | phTimeoutIndicate => exact .inr (.inl ⟨by decide, _, rfl⟩)
  | rsvPhaseAB => exact .inr (.inr ⟨.inl rfl, rfl⟩)
  | rsvPhaseCF => exact .inr (.inr ⟨.inr rfl, rfl⟩)

end Sys2Proof.Machine
end

