-- ==== Sys2Proof/Laws/Envelope.lean ====
section
/-! SUPPORT. What the envelope can do, said once: the fetch, the chaining, the clock contract and the events. -/

namespace Sys2Proof.Machine

@[simp] theorem andThen_next (s : State) (k : State → Host.Outcome State Fault Refusal) : andThen (.next s) k = k s := rfl

/-- A chain that answers a next state did so in both parts. -/
theorem andThen_eq_next {o : Host.Outcome State Fault Refusal} {k : State → Host.Outcome State Fault Refusal} {t : State} :
    andThen o k = .next t ↔ ∃ a, o = .next a ∧ k a = .next t := by
  cases o with
  | next a => simp
  | fault r => cases r
  | refused r => simp [andThen]

/-- The instruction a slot fetches, by the precedence of R53 and R114. -/
theorem fetch_eq (s : State) (c : SlotId) :
    fetch s c =
      if s.inp.reset then .reset (faulted s c) (timeoutCond s c) (s.slot c).phase
      else if faulted s c then .faultPreempt (timeoutCond s c) (s.slot c).phase
      else if timeoutCond s c then .globalTimeout (s.slot c).phase
      else decodePhaseRow (s.slot c).phase := by
  simp only [fetch, selector, decodeSelector_pack]

/-- `TIMEOUT_COND` never holds in `WAIT_LOW` (R52). -/
theorem timeoutCond_waitLow {s : State} {c : SlotId} (h : (s.slot c).phase = Phase.waitLow.code) :
    timeoutCond s c = false := by
  simp [timeoutCond, h]

/-- No phase row is RESET. -/
theorem decodePhaseRow_ne_reset (p : PhaseCode) : (decodePhaseRow p).mnemonic ≠ "RESET" := by
  revert p; decide

/-- With no reset sampled, a slot's step writes that slot only, or marks `ILLEGAL_PHASE`. -/
theorem slotStep_cases (c : SlotId) {s : State} (h : s.inp.reset = false) :
    (∃ v, slotStep c s = .next ((s.atSlot c).setSlot c v)) ∨ slotStep c s = .next (raiseIllegalPhase (s.atSlot c)) := by
  rcases exec_cases (fetch s c) (s.atSlot c) with ⟨f, t, p, hi, -⟩ | ⟨-, v, hv⟩ | ⟨-, hr⟩
  · have hp := decodePhaseRow_ne_reset (s.slot c).phase
    rw [fetch_eq, h] at hi
    cases hf : faulted s c <;> cases ht : timeoutCond s c <;>
      simp only [hf, ht, Bool.false_eq_true, if_true, if_false] at hi
    · rw [hi] at hp; exact absurd rfl hp
    all_goals cases hi
  · exact .inl ⟨v, hv⟩
  · exact .inr hr

/-- With the reset event sampled, a slot's step is RESET of the block (R53). -/
theorem slotStep_reset (c : SlotId) {s : State} (h : s.inp.reset = true) :
    slotStep c s = .next (resetBlock (s.atSlot c)) := by
  simp [slotStep, fetch_eq, h, exec, execReset]

@[simp] theorem clockDecreases_eq_true {t : Nat} {s : State} : clockDecreases t s = true ↔ t < s.lastNow := by
  simp only [clockDecreases, decide_eq_true_eq]

@[simp] theorem clockDecreases_eq_false {t : Nat} {s : State} : clockDecreases t s = false ↔ s.lastNow ≤ t := by
  simp only [clockDecreases, decide_eq_false_iff_not, Nat.not_lt]

/-- A gap is too long exactly when there was a tick before and it lies `2^32 - 5000` ms back or more (R136). -/
theorem gapTooLong_eq_true {t : Nat} {s : State} :
    gapTooLong t s = true ↔ ∃ u, s.lastTick = some u ∧ Config.tickGapLimit ≤ t - u := by
  unfold gapTooLong
  cases s.lastTick <;> simp

/-- When a tick's clock is accepted (R136). -/
theorem clockRefusal_eq_none {t : Nat} {s : State} :
    clockRefusal t s = none ↔ s.lastNow ≤ t ∧ gapTooLong t s = false := by
  rw [← clockDecreases_eq_false]
  unfold clockRefusal
  cases clockDecreases t s <;> cases gapTooLong t s <;> simp

/-- Why a tick's clock is not accepted (R136). -/
theorem clockRefusal_eq_some {t : Nat} {s : State} {r : Refusal} :
    clockRefusal t s = some r ↔
      (r = .clockDecreased ∧ t < s.lastNow) ∨ (r = .tickGapTooLong ∧ s.lastNow ≤ t ∧ gapTooLong t s = true) := by
  rw [← clockDecreases_eq_true, ← clockDecreases_eq_false]
  unfold clockRefusal
  cases clockDecreases t s <;> cases gapTooLong t s <;> simp [eq_comm]

/-- A reset moment answers a next state exactly when its clock has not gone back, and the state is RESET of the block. -/
theorem resetEvent_eq_next {m : Moment} {s t : State} (h : m.reset = true) :
    resetEvent m s = .next t ↔ s.lastNow ≤ m.now ∧ t = resetBlock ((s.sample m).atSlot .slot0) := by
  rw [← clockDecreases_eq_false]
  unfold resetEvent
  rw [slotStep_reset .slot0 (by simpa using h)]
  cases clockDecreases m.now s <;> simp [eq_comm]

/-- A tick that answers a next state ran both slots' steps and handed over the frame (R60). -/
theorem tickEvent_eq_next {m : Moment} {s t : State} :
    tickEvent m s = .next t ↔
      clockRefusal m.now s = none ∧
        ∃ a b, slotStep .slot0 (s.sample m) = .next a ∧ slotStep .slot1 a = .next b ∧ t = handFrame b := by
  unfold tickEvent
  split
  · simp_all
  · rename_i h
    simp only [tickBody, andThen_eq_next, h, true_and, Host.Outcome.next.injEq]
    constructor
    · rintro ⟨a, ha, b, hb, rfl⟩; exact ⟨a, b, ha, hb, rfl⟩
    · rintro ⟨a, b, ha, hb, rfl⟩; exact ⟨a, ha, b, hb, rfl⟩

end Sys2Proof.Machine
end

