-- ==== Sys2Proof/Laws/PerInstr.lean ====
section
/-! SUPPORT. The family TableRow: an instruction's selector matches the row of the map that bears its mnemonic. -/

namespace Sys2Proof.Laws.TableRow

/-- The row of the map with the instruction's mnemonic exists and the instruction's selector matches it (R53). -/
def Statement (i : Instr) : Prop :=
  ∃ row ∈ selectorTable, row.mnemonic = i.mnemonic ∧ row.hits (encodeSelector i) = true

theorem reset (f t : Bool) (p : PhaseCode) : Statement (.reset f t p) :=
  ⟨⟨"RESET", 0x40, 0x40⟩, by decide, rfl, by cases f <;> cases t <;> revert p <;> decide⟩

theorem faultPreempt (t : Bool) (p : PhaseCode) : Statement (.faultPreempt t p) :=
  ⟨⟨"FAULT_PREEMPT", 0x20, 0x60⟩, by decide, rfl, by cases t <;> revert p <;> decide⟩

theorem globalTimeout (p : PhaseCode) : Statement (.globalTimeout p) :=
  ⟨⟨"GLOBAL_TIMEOUT", 0x10, 0x70⟩, by decide, rfl, by revert p; decide⟩

theorem phWaitLow : Statement .phWaitLow := ⟨⟨"PH_WAIT_LOW", 0x00, 0x7F⟩, by decide, rfl, by decide⟩

theorem phWaitHigh : Statement .phWaitHigh := ⟨⟨"PH_WAIT_HIGH", 0x01, 0x7F⟩, by decide, rfl, by decide⟩

theorem phWaitLowAgain : Statement .phWaitLowAgain := ⟨⟨"PH_WAIT_LOW_AGAIN", 0x02, 0x7F⟩, by decide, rfl, by decide⟩

theorem phSeqBoth1 : Statement .phSeqBoth1 := ⟨⟨"PH_SEQ_BOTH_1", 0x03, 0x7F⟩, by decide, rfl, by decide⟩

theorem phSeqBatteryOnly : Statement .phSeqBatteryOnly :=
  ⟨⟨"PH_SEQ_BATTERY_ONLY", 0x04, 0x7F⟩, by decide, rfl, by decide⟩

theorem phSeqBoth2 : Statement .phSeqBoth2 := ⟨⟨"PH_SEQ_BOTH_2", 0x05, 0x7F⟩, by decide, rfl, by decide⟩

theorem phSeqBusOnly : Statement .phSeqBusOnly := ⟨⟨"PH_SEQ_BUS_ONLY", 0x06, 0x7F⟩, by decide, rfl, by decide⟩

theorem phWaitHighAgain : Statement .phWaitHighAgain := ⟨⟨"PH_WAIT_HIGH_AGAIN", 0x07, 0x7F⟩, by decide, rfl, by decide⟩

theorem phFaultIndicate : Statement .phFaultIndicate := ⟨⟨"PH_FAULT_INDICATE", 0x08, 0x7F⟩, by decide, rfl, by decide⟩

theorem phTimeoutIndicate : Statement .phTimeoutIndicate :=
  ⟨⟨"PH_TIMEOUT_INDICATE", 0x09, 0x7F⟩, by decide, rfl, by decide⟩

theorem rsvPhaseAB (b : Bool) : Statement (.rsvPhaseAB b) :=
  ⟨⟨"RSV_PHASE_A_B", 0x0A, 0x7E⟩, by decide, rfl, by cases b <;> decide⟩

theorem rsvPhaseCF (b : BitVec 2) : Statement (.rsvPhaseCF b) :=
  ⟨⟨"RSV_PHASE_C_F", 0x0C, 0x7C⟩, by decide, rfl, by revert b; decide⟩

end Sys2Proof.Laws.TableRow
end

