-- ==== Sys2Proof/Laws/Run.lean ====
section
/-! SUPPORT. Runs of the machine: the unfolding of a run, and that it is the host's run. -/

namespace Sys2Proof.Safety

open Sys2Proof.Machine

@[simp] theorem runFor_zero (s : State) : runFor 0 s = .next s := rfl

/-- A run of one step more that answers a next state: its first step did, and the rest ran from there. -/
theorem runFor_succ_eq_next {k : Nat} {s t : State} :
    runFor (k + 1) s = .next t ↔ ∃ u, step s = .next u ∧ runFor k u = .next t := by
  simp only [runFor, andThen_eq_next]

/-- The host's run, unfolded once. -/
theorem host_run_succ (M : Host.Core) (k : Nat) (s : M.State) :
    M.run (k + 1) s =
      match M.step s with
      | .next u => M.run k u
      | .fault r => .fault r
      | .refused r => .refused r := rfl

/-- `runFor` is the host's run of the machine. -/
theorem runFor_eq_host_run (k : Nat) (s : State) : runFor k s = Host.Core.run Sys2Proof.core k s := by
  induction k generalizing s with
  | zero => rfl
  | succ k ih =>
    refine Eq.trans ?_ (host_run_succ Sys2Proof.core k s).symm
    show andThen (Sys2Proof.core.step s) (runFor k) = _
    cases Sys2Proof.core.step s with
    | next u => exact ih u
    | fault r => cases r
    | refused r => rfl

end Sys2Proof.Safety
end

