-- ==== Sys2Proof/Laws/Stimulus.lean ====
section
/-! SUPPORT. The small lemmas of the stimulus notation's lowering. -/

namespace Sys2Proof.Machine

@[simp] theorem tickEvents_nil (l : LineLevels) (last : Nat) : tickEvents l last [] = ([], last) := rfl

@[simp] theorem tickEvents_cons (l : LineLevels) (last w : Nat) (ws : List Nat) :
    tickEvents l last (w :: ws) =
      (.moment (lineMoment false (unwrap last (BitVec.ofNat 32 w)) l) ::
        (tickEvents l (unwrap last (BitVec.ofNat 32 w)) ws).1,
       (tickEvents l (unwrap last (BitVec.ofNat 32 w)) ws).2) := rfl

@[simp] theorem programEvents_nil (last : Nat) : programEvents last [] = [] := rfl

@[simp] theorem programEvents_cons (last : Nat) (line : StimulusLine) (rest : List StimulusLine) :
    programEvents last (line :: rest) = (lineEvents last line).1 ++ programEvents (lineEvents last line).2 rest := rfl

end Sys2Proof.Machine
end

