-- ==== Sys2Proof/Tests/Slice0.lean ====
section
/-! SUPPORT. Tests: the well-formedness smoke, written-out words, the spec's own vectors (95_test_vectors.md, cited by id) one
step each, and a witness for the hypotheses of every statement that has some. -/

namespace Sys2Proof.Tests

open Sys2Proof.Machine Sys2Proof.Safety

/-! ### Well-formedness: each check refuses an ill-formed term (30_encoding.md R52, R54 b) -/

theorem test_wf_refuses_reset_timeout_in_idle : (Instr.reset true true 0b0000#4).wf = false := by decide
theorem test_wf_refuses_fault_timeout_in_idle : (Instr.faultPreempt true 0b0000#4).wf = false := by decide
theorem test_wf_refuses_timeout_in_idle : (Instr.globalTimeout 0b0000#4).wf = false := by decide
theorem test_wf_accepts_timeout_outside_idle : (Instr.globalTimeout 0b0001#4).wf = true := by decide
theorem test_wf_refuses_repeat_without_step :
    (StimulusLine.repeatTick 0#32 10#32 0 noLevels).wf = false := by decide

/-! ### Decoding: one word of every constructor, written from the patterns of R53 and the examples of 95_test_vectors.md 2.7 -/

theorem test_decode_reset : decode [0x7F#8] = .ok (.reset true true 0b1111#4, []) := by decide
theorem test_decode_faultPreempt : decode [0x3F#8] = .ok (.faultPreempt true 0b1111#4, []) := by decide
theorem test_decode_globalTimeout : decode [0x1F#8] = .ok (.globalTimeout 0b1111#4, []) := by decide
theorem test_decode_unassembled_timeout : decode [0x10#8] = .ok (.globalTimeout 0b0000#4, []) := by decide
theorem test_decode_phWaitLow : decode [0b00000000#8] = .ok (.phWaitLow, []) := by decide
theorem test_decode_phWaitHigh : decode [0b00000001#8] = .ok (.phWaitHigh, []) := by decide
theorem test_decode_phWaitLowAgain : decode [0b00000010#8] = .ok (.phWaitLowAgain, []) := by decide
theorem test_decode_phSeqBoth1 : decode [0b00000011#8] = .ok (.phSeqBoth1, []) := by decide
theorem test_decode_phSeqBatteryOnly : decode [0b00000100#8] = .ok (.phSeqBatteryOnly, []) := by decide
theorem test_decode_phSeqBoth2 : decode [0b00000101#8] = .ok (.phSeqBoth2, []) := by decide
theorem test_decode_phSeqBusOnly : decode [0b00000110#8] = .ok (.phSeqBusOnly, []) := by decide
theorem test_decode_phWaitHighAgain : decode [0b00000111#8] = .ok (.phWaitHighAgain, []) := by decide
theorem test_decode_phFaultIndicate : decode [0b00001000#8] = .ok (.phFaultIndicate, []) := by decide
theorem test_decode_phTimeoutIndicate : decode [0x09#8] = .ok (.phTimeoutIndicate, []) := by decide
theorem test_decode_rsvPhaseAB : decode [0x0B#8] = .ok (.rsvPhaseAB true, []) := by decide
theorem test_decode_rsvPhaseCF : decode [0x0F#8] = .ok (.rsvPhaseCF 0b11#2, []) := by decide
theorem test_decode_refuses_bit_seven : decode [0x80#8] = .error .notASelector := by decide
theorem test_decode_refuses_nothing : decode [] = .error .noByte := by decide

/-- The numbering of the opcode table: `PH_TIMEOUT_INDICATE` is word 9, and a word above 7 bits is none. -/
theorem test_decodeTableWord :
    decodeTableWord 8 9 = some .phTimeoutIndicate ∧ decodeTableWord 8 0x80 = none := by decide

/-- The counts of 95_test_vectors.md 2.7: RESET 64, FAULT_PREEMPT 32, GLOBAL_TIMEOUT 16 of the 128 selectors. -/
theorem test_selector_counts :
    let count := fun mn => ((List.range 128).filter fun w => (decodeSelector (BitVec.ofNat 7 w)).mnemonic == mn).length
    count "RESET" = 64 ∧ count "FAULT_PREEMPT" = 32 ∧ count "GLOBAL_TIMEOUT" = 16 ∧ count "RSV_PHASE_C_F" = 4 := by decide

/-! ### The small states of the tests -/

/-- Colors for the tests; the statements hold for any (R7). -/
def cfg : Configuration :=
  { colorRun1 := 0x000011#24, colorRun2 := 0x002200#24, colorFail := 0xFF0000#24, pinMap := default, tickInterval := 25 }

/-- A slot in a phase code since true time `te`, with the rails and colors given. -/
def slotIn (p : PhaseCode) (te : Nat) (bat bus : Bool) (c0 c1 : Color) : Slot :=
  { phase := p, entered := BitVec.ofNat 32 te, batEn := bat, busEn := bus, color0 := c0, color1 := c1 }

/-- A slot idling since 0, as after its first tick. -/
def idling : Slot := slotIn 0b0000#4 0 false true 0x000011#24 0x000011#24

/-- Slot 0 in a phase since true time `te`, slot 1 idling. -/
def start (p : PhaseCode) (te : Nat) : State :=
  { State.reset with slot0 := slotIn p te false true 0x002200#24 0x000000#24, slot1 := idling, cfg := cfg, lastNow := te }

/-- A tick at `now` with slot 0's two lines given and slot 1's idle. -/
def tickAt (now : Nat) (p0 f0 : Level) : Moment :=
  { reset := false, tick := true, now := now, pins0 := { presenceN := p0, faultN := f0 }, pins1 := PinLevels.idle }

/-- A reset at `now`, with or without a tick. -/
def resetAt (now : Nat) (tick : Bool) : Moment :=
  { reset := true, tick := tick, now := now, pins0 := { presenceN := .low, faultN := .low }, pins1 := PinLevels.idle }

/-- The state with one pending moment. -/
def facing (s : State) (m : Moment) : State := { s with queue := [.moment m] }

/-- The outcome is a next state. -/
def isNext : Host.Outcome State Fault Refusal → Bool
  | .next _ => true
  | .fault _ => false
  | .refused _ => false

/-- The next state of an outcome; reset where there is none. -/
def got : Host.Outcome State Fault Refusal → State
  | .next t => t
  | .fault _ => State.reset
  | .refused _ => State.reset

theorem eq_got {o : Host.Outcome State Fault Refusal} (h : isNext o = true) : o = .next (got o) := by
  cases o with
  | next t => rfl
  | fault r => cases r
  | refused r => cases h

/-- Slot 0 after one tick from `start p te`. -/
def after (p : PhaseCode) (te now : Nat) (p0 f0 : Level) : Slot :=
  (got (step (facing (start p te) (tickAt now p0 f0)))).slot0

/-! ### One step each: the vectors of 95_test_vectors.md section 2 -/

/-- V-X1. -/
theorem test_reset_from_any_phase :
    let t := got (step (facing (start 0b0101#4 1100) (resetAt 1234 false)))
    t.slot0 = slotIn 0b0000#4 1234 false false 0 0 ∧ t.slot1 = t.slot0 ∧ t.frame = Frame.allOff ∧ t.sink.strobes = 0 := by
  decide

/-- V-X4: reset wins over a tick at the same moment, and the low lines are not read. -/
theorem test_reset_beats_tick :
    (got (step (facing (start 0b0101#4 1100) (resetAt 1300 true)))).slot0 = slotIn 0b0000#4 1300 false false 0 0 := by decide

/-- V-F2: from FAULT_INDICATE itself, dark half. -/
theorem test_fault_reenters : after 0b1000#4 300 325 .high .low = slotIn 0b1000#4 325 false false 0 0 := by decide

/-- V-F3: fault beats the timeout. -/
theorem test_fault_beats_timeout :
    after 0b0001#4 0 6000 .low .low = slotIn 0b1000#4 6000 false false 0xFF0000#24 0xFF0000#24 := by decide

/-- V-T5: the timeout overtakes an indicate dwell. -/
theorem test_timeout_beats_indicate_dwell :
    after 0b1000#4 0 5000 .high .high = slotIn 0b1001#4 5000 false false 0xFF0000#24 0 := by decide

/-- V-P6: the timeout beats the presence transition. -/
theorem test_timeout_beats_presence :
    after 0b0001#4 0 5000 .high .high = slotIn 0b1001#4 5000 false false 0xFF0000#24 0 := by decide

/-- V-P1. -/
theorem test_waitLow_leaves_on_low :
    after 0b0000#4 0 0 .low .high = slotIn 0b0001#4 0 false true 0x000011#24 0x000011#24 := by decide

/-- V-T3: no timeout in idle. -/
theorem test_waitLow_never_times_out :
    after 0b0000#4 0 1000000 .high .high = slotIn 0b0000#4 0 false true 0x000011#24 0x000011#24 := by decide

/-- V-P3. -/
theorem test_waitHigh_leaves_on_high :
    after 0b0001#4 0 50 .high .high = slotIn 0b0010#4 50 false true 0x002200#24 0 := by decide

/-- V-T2: 4999 is not 5000. -/
theorem test_waitHigh_holds_at_4999 :
    after 0b0001#4 0 4999 .low .high = slotIn 0b0001#4 0 false true 0x002200#24 0 := by decide

/-- V-P7. -/
theorem test_waitLowAgain_leaves_on_low :
    after 0b0010#4 50 100 .low .high = slotIn 0b0011#4 100 false true 0x000011#24 0 := by decide

/-- V-P8. -/
theorem test_waitLowAgain_holds_on_high :
    after 0b0010#4 50 75 .high .high = slotIn 0b0010#4 50 false true 0x000011#24 0 := by decide

/-- V-P10: no dwell. -/
theorem test_waitHighAgain_leaves_on_high :
    after 0b0111#4 2100 2500 .high .high = slotIn 0b0000#4 2500 false true 0x002200#24 0 := by decide

/-- V-P11. -/
theorem test_waitHighAgain_holds_on_low :
    after 0b0111#4 2100 2125 .low .high = slotIn 0b0111#4 2100 false true 0x002200#24 0 := by decide

/-- V-S1: 499 is not 500. -/
theorem test_seqBoth1_holds_at_499 :
    after 0b0011#4 100 599 .high .high = slotIn 0b0011#4 100 true true 0x002200#24 0 := by decide

/-- V-T7: the clock word wraps between entry (0xFFFFFF00) and the tick (0x000000F4); the elapsed time is 500. -/
theorem test_seqBoth1_across_the_wrap :
    after 0b0011#4 0xFFFFFF00 (2 ^ 32 + 244) .low .high = slotIn 0b0100#4 244 true true 0x002200#24 0 := by decide

/-- V-S3. -/
theorem test_seqBatteryOnly_fires_at_500 :
    after 0b0100#4 600 1100 .low .high = slotIn 0b0101#4 1100 true false 0x000011#24 0 := by decide

/-- V-S4. -/
theorem test_seqBatteryOnly_holds_at_499 :
    after 0b0100#4 600 1099 .high .high = slotIn 0b0100#4 600 true false 0x000011#24 0 := by decide

/-- V-S5. -/
theorem test_seqBoth2_fires_at_500 :
    after 0b0101#4 1100 1600 .low .high = slotIn 0b0110#4 1600 true true 0x002200#24 0 := by decide

/-- V-S9: the same `now` again. -/
theorem test_seqBoth2_same_now :
    after 0b0101#4 1100 1100 .low .high = slotIn 0b0101#4 1100 true true 0x002200#24 0 := by decide

/-- V-S6. -/
theorem test_seqBusOnly_fires_at_500 :
    after 0b0110#4 1600 2100 .low .high = slotIn 0b0111#4 2100 false true 0x000011#24 0 := by decide

/-- V-S7: a late tick, still before the timeout. -/
theorem test_seqBusOnly_fires_at_4999 :
    after 0b0110#4 1600 6599 .low .high = slotIn 0b0111#4 6599 false true 0x000011#24 0 := by decide

/-- V-I2: the outputs of the exit tick are still the indicate phase's. -/
theorem test_faultIndicate_leaves_at_2000 :
    after 0b1000#4 975 2975 .high .high = slotIn 0b0000#4 2975 false false 0 0 := by decide

/-- V-I7: lit at 100. -/
theorem test_faultIndicate_lit_at_100 :
    after 0b1000#4 1000 1100 .low .high = slotIn 0b1000#4 1000 false false 0xFF0000#24 0xFF0000#24 := by decide

/-- V-I4: one indicator flashes. -/
theorem test_timeoutIndicate_leaves_at_2000 :
    after 0b1001#4 5000 7000 .high .high = slotIn 0b0000#4 7000 false false 0xFF0000#24 0 := by decide

/-- V-I5: dark at 199. -/
theorem test_timeoutIndicate_dark_at_199 :
    after 0b1001#4 5000 6999 .low .high = slotIn 0b1001#4 5000 false false 0 0 := by decide

/-- Slot 1 in a reserved code, slot 0 in `WAIT_HIGH`, for V-R1 and V-R2. -/
def reservedStart (p : PhaseCode) : State :=
  { start 0b0001#4 0 with slot1 := slotIn p 0 true false 0x123456#24 0x654321#24 }

/-- V-R2. -/
theorem test_rsvPhaseAB_marks :
    let t := got (step (facing (reservedStart 0b1010#4) (tickAt 10 .high .high)))
    t.faultMark = true ∧ t.slot1 = (reservedStart 0b1010#4).slot1 ∧ t.slot0.phase = 0b0010#4 := by decide

/-- V-R1: the frame takes slot 1's unchanged colors. -/
theorem test_rsvPhaseCF_marks :
    let t := got (step (facing (reservedStart 0b1100#4) (tickAt 10 .high .high)))
    t.faultMark = true ∧ t.slot1 = (reservedStart 0b1100#4).slot1 ∧
      t.frame = ⟨0x002200#24, 0x000000#24, 0x123456#24, 0x654321#24⟩ := by decide

/-- V-E2: both slots in one tick, and the frame of the same tick. -/
theorem test_tick_both_slots :
    let s := { start 0b0001#4 0 with slot1 := slotIn 0b0011#4 100 true true 0x002200#24 0 }
    let t := got (step (facing s (tickAt 600 .high .high)))
    t.slot0 = slotIn 0b0010#4 600 false true 0x002200#24 0 ∧ t.slot1 = slotIn 0b0100#4 600 true true 0x002200#24 0 ∧
      t.frame = ⟨0x002200#24, 0, 0x002200#24, 0⟩ ∧ t.sink = { shown := some ⟨0x002200#24, 0, 0x002200#24, 0⟩, strobes := 1 } := by
  decide

/-- R136, D18: a gap of exactly `2^32 - 5000` ms between two ticks is refused in idle too, whatever sample lies between, and
one of 1 ms less is served. -/
theorem test_long_gap_is_refused_in_idle :
    let s := { start 0b0000#4 0 with lastNow := 1000, lastTick := some 0 }
    isNext (step (facing s (tickAt (2 ^ 32 - 5000) .high .high))) = false ∧
      isNext (step (facing s (tickAt (2 ^ 32 - 5001) .high .high))) = true := by decide

/-- R136, D19: a RESET whose clock went back is refused. -/
theorem test_reset_with_decreased_clock_is_refused :
    isNext (step (facing (start 0b0011#4 100) (resetAt 99 false))) = false := by decide

/-- L1.1 from RESET with one tick: the first tick, just before the wrap, has no tick before it, and nothing changes in idle. -/
theorem test_first_tick_before_the_wrap :
    (got (step (facing (start 0b0000#4 0) (tickAt 4294967295 .high .high)))).slot0 =
      slotIn 0b0000#4 0 false true 0x000011#24 0x000011#24 := by decide

/-- 95_test_vectors.md 2.6, color packing. -/
theorem test_color_packing : packColor 0x12#8 0x34#8 0x56#8 = 0x123456#24 := by decide

/-- 95_test_vectors.md 2.6: the flash around its thresholds and the wrap. -/
theorem test_flash_values :
    flash cfg 100#32 = 0xFF0000#24 ∧ flash cfg 101#32 = 0 ∧ flash cfg 199#32 = 0 ∧ flash cfg 200#32 = 0xFF0000#24 ∧
      flash cfg 4294967199#32 = 0 ∧ flash cfg 4294967200#32 = 0xFF0000#24 ∧ flash cfg 4294967295#32 = 0xFF0000#24 := by decide

/-! ### The stimulus notation (R57) -/

/-- `TICK now=75 p0=0  # low`, with the other levels idle. -/
theorem test_read_tick_line :
    readLine ['T', 'I', 'C', 'K', ' ', 'n', 'o', 'w', '=', '7', '5', ' ', 'p', '0', '=', '0', ' ', '#', ' ', 'x'] =
      some (.tick 75#32 { p0 := some .low, f0 := none, p1 := none, f1 := none }) := by decide

/-- `RESET now=0x10`. -/
theorem test_read_reset_line :
    readLine ['R', 'E', 'S', 'E', 'T', ' ', 'n', 'o', 'w', '=', '0', 'x', '1', '0'] = some (.reset 16#32) := by decide

/-- Log entry 11: a comment line and an empty line are read as no line. -/
theorem test_read_comment_and_empty_line : readLine ['#', ' ', 's'] = none ∧ readLine [] = none := by decide

/-- R57: `now=100..175 step=25` gives four ticks; `0..60 step=25` stops at 50. -/
theorem test_repeat_times : repeatTimes 100 175 25 = [100, 125, 150, 175] ∧ repeatTimes 0 60 25 = [0, 25, 50] := by decide

/-! ### The host's word placement: every selector row runs as the next step -/

theorem test_every_row_runs_from_reset :
    ([0x40, 0x20, 0x10, 0x00, 0x01, 0x02, 0x03, 0x04, 0x05, 0x06, 0x07, 0x08, 0x09, 0x0A, 0x0C].all fun w =>
      isNext (step (State.reset.withFetchWord 8 w))) = true := by decide

/-! ### Witnesses: for each statement with hypotheses, a state and operands that meet all of them

Named after the statement. Boundary values are used: 4999 and 5000 for the timeout, 499 and 500, 1999 and 2000 for the
dwells, 100 and 101 for the flash. -/

/-- Slot 0 in `p` with elapsed time `el`, sampled as high, high and no reset event. -/
def sampled (p : PhaseCode) (el : Nat) : State := State.sample (start p 100) (tickAt (100 + el) .high .high)

theorem witness_ElapsedIsTrueTimeAcrossAWrap :
    let s := State.sample (start 0b0011#4 0xFFFFFF00) (tickAt (2 ^ 32 + 244) .low .high)
    s.inp.now = clockWord (2 ^ 32 + 244) ∧ (s.slot .slot0).entered = clockWord 0xFFFFFF00 ∧
      0xFFFFFF00 ≤ 2 ^ 32 + 244 ∧ 2 ^ 32 + 244 - 0xFFFFFF00 < 2 ^ 32 := by decide

theorem witness_FlashFollowsTheClockWord :
    (100#32).toNat % 200 ≤ 100 ∧ 100 < (101#32).toNat % 200 ∧ (4294967095#32).toNat + 200 < 2 ^ 32 := by decide

theorem witness_IndicatorOneIsOffByDefault :
    (Phase.waitHigh ≠ .waitLow ∧ Phase.waitHigh ≠ .faultIndicate) ∧ Phase.waitLow = .waitLow ∧
      Phase.faultIndicate = .faultIndicate := by decide

theorem witness_FaultPreemptEntersFaultIndicate :
    let s := State.sample (start 0b0100#4 100) (tickAt 300 .high .low)
    s.inp.reset = false ∧ (s.inp.pins .slot0).faultN = .low := by decide

theorem witness_GlobalTimeoutEntersTimeoutIndicate :
    (sampled 0b0001#4 5000).inp.reset = false ∧ ((sampled 0b0001#4 5000).inp.pins .slot0).faultN = .high ∧
      ((sampled 0b0001#4 5000).slot .slot0).phase ≠ 0b0000#4 ∧
      5000 ≤ ((sampled 0b0001#4 5000).inp.now - ((sampled 0b0001#4 5000).slot .slot0).entered).toNat := by decide

theorem witness_WaitLowWaitsForPresenceLow :
    let s := sampled 0b0000#4 5000
    s.inp.reset = false ∧ (s.inp.pins .slot0).faultN = .high ∧ (s.slot .slot0).phase = 0b0000#4 := by decide

theorem witness_WaitHighWaitsForPresenceHigh :
    let s := sampled 0b0001#4 4999
    s.inp.reset = false ∧ (s.inp.pins .slot0).faultN = .high ∧ (s.slot .slot0).phase = 0b0001#4 ∧
      (s.inp.now - (s.slot .slot0).entered).toNat < 5000 := by decide

theorem witness_WaitLowAgainWaitsForPresenceLow :
    let s := sampled 0b0010#4 4999
    s.inp.reset = false ∧ (s.inp.pins .slot0).faultN = .high ∧ (s.slot .slot0).phase = 0b0010#4 ∧
      (s.inp.now - (s.slot .slot0).entered).toNat < 5000 := by decide

theorem witness_WaitHighAgainWaitsForPresenceHigh :
    let s := sampled 0b0111#4 4999
    s.inp.reset = false ∧ (s.inp.pins .slot0).faultN = .high ∧ (s.slot .slot0).phase = 0b0111#4 ∧
      (s.inp.now - (s.slot .slot0).entered).toNat < 5000 := by decide

theorem witness_SeqBoth1DwellsWithBothRails :
    let s := sampled 0b0011#4 4999
    s.inp.reset = false ∧ (s.inp.pins .slot0).faultN = .high ∧ (s.slot .slot0).phase = 0b0011#4 ∧
      (s.inp.now - (s.slot .slot0).entered).toNat < 5000 := by decide

theorem witness_SeqBatteryOnlyDwellsOnBattery :
    let s := sampled 0b0100#4 4999
    s.inp.reset = false ∧ (s.inp.pins .slot0).faultN = .high ∧ (s.slot .slot0).phase = 0b0100#4 ∧
      (s.inp.now - (s.slot .slot0).entered).toNat < 5000 := by decide

theorem witness_SeqBoth2DwellsWithBothRails :
    let s := sampled 0b0101#4 4999
    s.inp.reset = false ∧ (s.inp.pins .slot0).faultN = .high ∧ (s.slot .slot0).phase = 0b0101#4 ∧
      (s.inp.now - (s.slot .slot0).entered).toNat < 5000 := by decide

theorem witness_SeqBusOnlyDwellsOnBus :
    let s := sampled 0b0110#4 4999
    s.inp.reset = false ∧ (s.inp.pins .slot0).faultN = .high ∧ (s.slot .slot0).phase = 0b0110#4 ∧
      (s.inp.now - (s.slot .slot0).entered).toNat < 5000 := by decide

theorem witness_FaultIndicateReturnsAfterItsDwell :
    let s := sampled 0b1000#4 4999
    s.inp.reset = false ∧ (s.inp.pins .slot0).faultN = .high ∧ (s.slot .slot0).phase = 0b1000#4 ∧
      (s.inp.now - (s.slot .slot0).entered).toNat < 5000 := by decide

/-- The clause of `FaultIndicateReturnsAfterItsDwell` on a line that is still low, at the end of the dwell. -/
theorem witness_FaultIndicateReturnsAfterItsDwell_low :
    let s := State.sample (start 0b1000#4 100) (tickAt 2100 .high .low)
    s.inp.reset = false ∧ (s.inp.pins .slot0).faultN = .low ∧ (s.slot .slot0).phase = 0b1000#4 := by decide

theorem witness_TimeoutIndicateReturnsAfterItsDwell :
    let s := sampled 0b1001#4 4999
    s.inp.reset = false ∧ (s.inp.pins .slot0).faultN = .high ∧ (s.slot .slot0).phase = 0b1001#4 ∧
      (s.inp.now - (s.slot .slot0).entered).toNat < 5000 := by decide

theorem witness_ReservedPhaseMarksAndWritesNothing :
    (sampled 0b1010#4 4999).inp.reset = false ∧ 10 ≤ ((sampled 0b1010#4 4999).slot .slot0).phase.toNat ∧
      ((sampled 0b1010#4 4999).inp.pins .slot0).faultN = .high ∧
      ((sampled 0b1010#4 4999).inp.now - ((sampled 0b1010#4 4999).slot .slot0).entered).toNat < 5000 := by decide

theorem witness_ResetPutsBothSlotsInIdle :
    (State.sample (start 0b0101#4 1100) (resetAt 1300 false)).inp.reset = true := by decide

theorem witness_SlotRowsWriteOnlyTheirSlot :
    Instr.phSeqBoth1.mnemonic ≠ "RESET" ∧ Instr.phSeqBoth1.mnemonic ≠ "RSV_PHASE_A_B" ∧
      Instr.phSeqBoth1.mnemonic ≠ "RSV_PHASE_C_F" ∧
      exec .phSeqBoth1 (sampled 0b0011#4 500) = .next (got (exec .phSeqBoth1 (sampled 0b0011#4 500))) :=
  ⟨by decide, by decide, by decide, rfl⟩

theorem witness_ResetAndReservedRowsFrame :
    (exec (.reset true true 0b1111#4) (sampled 0b0011#4 500) =
        .next (got (exec (.reset true true 0b1111#4) (sampled 0b0011#4 500))) ∧
      (Instr.reset true true 0b1111#4).mnemonic = "RESET") ∧
    (exec (.rsvPhaseCF 0b11#2) (sampled 0b1111#4 10) = .next (got (exec (.rsvPhaseCF 0b11#2) (sampled 0b1111#4 10))) ∧
      (Instr.rsvPhaseCF 0b11#2).mnemonic = "RSV_PHASE_C_F") := ⟨⟨rfl, rfl⟩, rfl, rfl⟩

theorem witness_TimerBaseIsWrittenOnlyByEnter :
    Instr.phSeqBoth1.mnemonic ≠ "RESET" ∧
      exec .phSeqBoth1 (sampled 0b0011#4 500) = .next (got (exec .phSeqBoth1 (sampled 0b0011#4 500))) :=
  ⟨by decide, rfl⟩

/-! #### Ticks

`tick p el f` is a tick from phase code `p` whose elapsed time is `el`; `slot0 p el f` is slot 0 after it. -/

/-- One pending tick on slot 0 in `p` since 100. -/
def pending (p : PhaseCode) (el : Nat) (p0 f0 : Level) : State := facing (start p 100) (tickAt (100 + el) p0 f0)

/-- A pending tick of the tests is served. -/
theorem pending_served {p : PhaseCode} {el : Nat} {p0 f0 : Level} (h : isNext (step (pending p el p0 f0)) = true) :
    (pending p el p0 f0).queue = [.moment (tickAt (100 + el) p0 f0)] ∧ plainTick (tickAt (100 + el) p0 f0) = true ∧
      step (pending p el p0 f0) = .next (got (step (pending p el p0 f0))) := ⟨rfl, rfl, eq_got h⟩

theorem witness_TickStepRunsTheDecodedInstructions :
    let s := pending 0b0011#4 500 .high .high
    let m := tickAt 600 .high .high
    let u := State.sample { s with queue := [] } m
    let a := got (exec .phSeqBoth1 (u.atSlot .slot0))
    let b := got (exec .phWaitLow (a.atSlot .slot1))
    s.queue = [.moment m] ∧ m.tick = true ∧ m.reset = false ∧ clockRefusal m.now s = none ∧
      decode [0#1 ++ selector u .slot0] = .ok (.phSeqBoth1, []) ∧ exec .phSeqBoth1 (u.atSlot .slot0) = .next a ∧
      decode [0#1 ++ selector a .slot1] = .ok (.phWaitLow, []) ∧ exec .phWaitLow (a.atSlot .slot1) = .next b :=
  ⟨rfl, rfl, rfl, by decide, by decide, rfl, by decide, rfl⟩

/-- Also for `ResetEventLeavesTheResetState`, whose hypotheses are the same. -/
theorem witness_ResetMomentRunsResetAlone :
    (facing (start 0b0101#4 1100) (resetAt 1300 true)).queue = [.moment (resetAt 1300 true)] ∧
      (resetAt 1300 true).reset = true ∧ (start 0b0101#4 1100).lastNow ≤ 1300 := ⟨rfl, rfl, by decide⟩

theorem witness_ResetEventLeavesTheResetState :
    (facing (start 0b1111#4 1100) (resetAt 1100 false)).queue = [.moment (resetAt 1100 false)] ∧
      (resetAt 1100 false).reset = true ∧ (start 0b1111#4 1100).lastNow ≤ 1100 := ⟨rfl, rfl, by decide⟩

/-- A moment with neither event. -/
def quiet : Moment := { tickAt 700 .low .low with tick := false }

theorem witness_BlockHoldsItsStateBetweenEvents :
    (start 0b0011#4 100).queue = [] ∧
      ((facing (start 0b0011#4 100) quiet).queue = [.moment quiet] ∧ quiet.reset = false ∧ quiet.tick = false) :=
  ⟨rfl, rfl, rfl, rfl⟩

theorem witness_TickWritesAndDisplaysOneFrame :
    let s := pending 0b0011#4 500 .high .high
    s.queue = [.moment (tickAt 600 .high .high)] ∧ plainTick (tickAt 600 .high .high) = true ∧ step s = .next (got (step s)) :=
  pending_served (by decide)

theorem witness_SlotStepIsThePureTransition :
    let s := pending 0b0011#4 500 .high .high
    s.queue = [.moment (tickAt 600 .high .high)] ∧ plainTick (tickAt 600 .high .high) = true ∧
      step s = .next (got (step s)) ∧ (s.slot .slot0).phase = Phase.seqBoth1.code :=
  let h := pending_served (by decide); ⟨h.1, h.2.1, h.2.2, rfl⟩

theorem witness_FaultTakesPrecedence :
    let s := pending 0b1111#4 5000 .low .low
    s.queue = [.moment (tickAt 5100 .low .low)] ∧ plainTick (tickAt 5100 .low .low) = true ∧
      step s = .next (got (step s)) ∧ ((tickAt 5100 .low .low).pins .slot0).faultN = .low :=
  let h := pending_served (by decide); ⟨h.1, h.2.1, h.2.2, rfl⟩

/-- The tick at 5000 ms, with the premises of the clause that fires. -/
theorem witness_TimeoutFiresAtFiveSecondsAndNotBefore :
    let s := pending 0b0001#4 5000 .low .high
    let m := tickAt 5100 .low .high
    s.queue = [.moment m] ∧ plainTick m = true ∧ step s = .next (got (step s)) ∧ (m.pins .slot0).faultN = .high ∧
      (s.slot .slot0).phase ≠ 0b0000#4 ∧ 5000 ≤ (clockWord m.now - (s.slot .slot0).entered).toNat :=
  let h := pending_served (by decide); ⟨h.1, h.2.1, h.2.2, rfl, by decide, by decide⟩

/-- The tick at 4999 ms, and one at 5000 ms in `WAIT_LOW`, with the premises of the clause that does not fire. -/
theorem witness_TimeoutFiresAtFiveSecondsAndNotBefore_holds :
    (let s := pending 0b0001#4 4999 .low .high
     let m := tickAt 5099 .low .high
     s.queue = [.moment m] ∧ plainTick m = true ∧ step s = .next (got (step s)) ∧ (m.pins .slot0).faultN = .high ∧
       (s.slot .slot0).phase ≠ 0b1001#4 ∧ (clockWord m.now - (s.slot .slot0).entered).toNat < 5000) ∧
    (let s := pending 0b0000#4 5000 .low .high
     let m := tickAt 5100 .low .high
     s.queue = [.moment m] ∧ plainTick m = true ∧ step s = .next (got (step s)) ∧ (m.pins .slot0).faultN = .high ∧
       (s.slot .slot0).phase ≠ 0b1001#4 ∧ (s.slot .slot0).phase = 0b0000#4) :=
  let h := pending_served (by decide)
  let k := pending_served (by decide)
  ⟨⟨h.1, h.2.1, h.2.2, rfl, by decide, by decide⟩, k.1, k.2.1, k.2.2, rfl, by decide, rfl⟩

/-- SEQ_BOTH_1 at its deadline, then SEQ_BATTERY_ONLY 25 ms later. -/
theorem witness_OutputsLagOneTick :
    let m := tickAt 600 .low .high
    let n := tickAt 625 .low .high
    let s := { start 0b0011#4 100 with queue := [.moment m, .moment n] }
    let t := got (step s)
    s.queue = [.moment m, .moment n] ∧ plainTick m = true ∧ plainTick n = true ∧
      step s = .next t ∧ step t = .next (got (step t)) ∧
      (s.slot .slot0).phase = Phase.seqBoth1.code ∧ (t.slot .slot0).phase = Phase.seqBatteryOnly.code ∧
      (m.pins .slot0).faultN = .high ∧ (clockWord m.now - (s.slot .slot0).entered).toNat < 5000 ∧
      (n.pins .slot0).faultN = .high ∧ (clockWord n.now - (t.slot .slot0).entered).toNat < 5000 :=
  ⟨rfl, rfl, rfl, eq_got (by decide), eq_got (by decide), rfl, by decide, rfl, by decide, rfl, by decide⟩

/-- At 499 ms, at 500 ms and at 4999 ms after the true time of entry 100. -/
theorem witness_DwellEndsAtTheFirstTickAfterItsDeadline :
    ∀ now ∈ [599, 600, 5099],
      let m := tickAt now .low .high
      let s := facing (start 0b0011#4 100) m
      s.queue = [.moment m] ∧ plainTick m = true ∧ isNext (step s) = true ∧ (s.slot .slot0).phase = Phase.seqBoth1.code ∧
        Phase.seqBoth1 ∈ [Phase.seqBoth1, .seqBatteryOnly, .seqBoth2, .seqBusOnly] ∧
        (s.slot .slot0).entered = clockWord 100 ∧ 100 ≤ m.now ∧ (m.pins .slot0).faultN = .high ∧
        (m.now < 100 + 500 ∨ 100 + 500 ≤ m.now ∧ m.now < 100 + 5000) := by decide

/-! #### Stops and invariants -/

/-- Each way to refuse, at its boundary: a clock one behind at a tick and at a reset, and a gap of
exactly `2^32 - 5000` ms between two ticks, in `WAIT_LOW`. -/
theorem witness_StepRefusesOnlyOutOfContractEvents :
    step { start 0b0001#4 100 with queue := [.portFailure] } = .refused .portFailure ∧
    step { start 0b0001#4 100 with queue := [.consoleWrite] } = .refused .consoleWrite ∧
    step (facing (start 0b0001#4 100) (tickAt 99 .high .high)) = .refused .clockDecreased ∧
    step (facing (start 0b0001#4 100) (resetAt 99 true)) = .refused .clockDecreased ∧
    step (facing { start 0b0000#4 0 with lastTick := some 0 } (tickAt (2 ^ 32 - 5000) .high .high)) =
      .refused .tickGapTooLong :=
  ⟨rfl, rfl, rfl, rfl, rfl⟩

theorem witness_HonouredRunNeverStops :
    let s := { start 0b0001#4 100 with
      queue :=
        [.moment (tickAt 100 .low .low), .moment (resetAt 100 false), .moment (tickAt (100 + (2 ^ 32 - 5001)) .low .low)] }
    honours s.lastNow s.lastTick s.queue = true := by decide

/-- A state that meets every invariant, and a step from it. -/
theorem witness_StepKeepsLegalPhases :
    let s := pending 0b0001#4 50 .high .high
    LegalPhases s ∧ step s = .next (got (step s)) := ⟨⟨by decide, by decide⟩, eq_got (by decide)⟩

theorem witness_StepKeepsTheMarkClear :
    let s := pending 0b0001#4 50 .high .high
    Unmarked s ∧ step s = .next (got (step s)) := ⟨⟨rfl, by decide, by decide⟩, eq_got (by decide)⟩

theorem witness_StepKeepsTheFrameCurrent :
    let s := facing State.reset (tickAt 0 .high .high)
    FrameCurrent s ∧ step s = .next (got (step s)) := ⟨rfl, eq_got (by decide)⟩

theorem witness_StepKeepsTheRailsInStep :
    let s := pending 0b0011#4 25 .low .high
    RailsFollow s ∧ step s = .next (got (step s)) := ⟨⟨by decide, by decide⟩, eq_got (by decide)⟩

/-- A tick on a reserved code at 4999 ms, a reset, and a step with nothing pending. -/
theorem witness_FaultMarkIsStickyUntilReset :
    (let s := pending 0b1010#4 4999 .high .high
     step s = .next (got (step s)) ∧ s.queue = [.moment (tickAt 5099 .high .high)] ∧
       plainTick (tickAt 5099 .high .high) = true) ∧
    (let s := facing { start 0b1010#4 100 with faultMark := true } (resetAt 200 true)
     step s = .next (got (step s)) ∧ s.queue = [.moment (resetAt 200 true)] ∧ (resetAt 200 true).reset = true) ∧
    (step (start 0b1010#4 100) = .next (start 0b1010#4 100) ∧
      ∀ (m : Moment) (rest : List Event), (start 0b1010#4 100).queue = .moment m :: rest → m.reset = false ∧ m.tick = false) :=
  ⟨⟨eq_got (by decide), rfl, rfl⟩, ⟨eq_got (by decide), rfl, rfl⟩, rfl, fun m rest h => nomatch h⟩

theorem witness_ConfigurationIsNeverWritten :
    let s := pending 0b0001#4 50 .high .high
    runFor 1 s = .next (got (runFor 1 s)) := eq_got (by decide)

/-! #### Two slots, and runs -/

/-- Slot 0 alike in both machines; slot 1 idle in one, and marked, faulted and at another phase in the other. -/
theorem witness_SlotsAreIndependent :
    let m := tickAt 600 .low .high
    let m' := { m with pins1 := { presenceN := .low, faultN := .low } }
    let s := facing (start 0b0011#4 100) m
    let s' := facing { start 0b0011#4 100 with slot1 := slotIn 0b1010#4 7 true true 1 2, faultMark := true } m'
    s.queue = [.moment m] ∧ s'.queue = [.moment m'] ∧ plainTick m = true ∧ plainTick m' = true ∧
      step s = .next (got (step s)) ∧ step s' = .next (got (step s')) ∧
      s.slot .slot0 = s'.slot .slot0 ∧ s.cfg = s'.cfg ∧ m.now = m'.now ∧ m.pins .slot0 = m'.pins .slot0 :=
  ⟨rfl, rfl, rfl, rfl, eq_got (by decide), eq_got (by decide), rfl, rfl, rfl, rfl⟩

/-- The same phase and timer base, with other outputs before. -/
theorem witness_OutputsNeverDependOnHistory :
    let m := tickAt 600 .low .high
    let s := facing (start 0b0011#4 100) m
    let s' := facing { start 0b0011#4 100 with slot0 := slotIn 0b0011#4 100 true false 0x123456#24 0x654321#24 } m
    s.queue = [.moment m] ∧ s'.queue = [.moment m] ∧ plainTick m = true ∧
      step s = .next (got (step s)) ∧ step s' = .next (got (step s')) ∧
      (s.slot .slot0).phase = Phase.seqBoth1.code ∧ (s'.slot .slot0).phase = Phase.seqBoth1.code ∧
      (s.slot .slot0).entered = (s'.slot .slot0).entered ∧ s.cfg = s'.cfg ∧ m.pins .slot0 = m.pins .slot0 :=
  ⟨rfl, rfl, rfl, eq_got (by decide), eq_got (by decide), rfl, rfl, rfl, rfl, rfl⟩

theorem witness_SlotOrderIsNotObservable : (sampled 0b1010#4 4999).inp.reset = false := by decide

/-- The last tick of a SEQ_BUS_ONLY dwell, its rails still SEQ_BOTH_2's. -/
theorem witness_RailWalkNeverDropsPower :
    let m := tickAt 5099 .low .high
    let s := facing { start 0b0110#4 100 with slot0 := slotIn 0b0110#4 100 true true 0x002200#24 0 } m
    RailsFollow s ∧ s.queue = [.moment m] ∧ plainTick m = true ∧ step s = .next (got (step s)) ∧
      (s.slot .slot0).phase = Phase.seqBusOnly.code ∧
      Phase.seqBusOnly ∈ [Phase.seqBoth1, .seqBatteryOnly, .seqBoth2, .seqBusOnly] ∧
      (m.pins .slot0).faultN = .high ∧ (clockWord m.now - (s.slot .slot0).entered).toNat < 5000 :=
  ⟨⟨by decide, by decide⟩, rfl, rfl, eq_got (by decide), rfl, by decide, rfl, by decide⟩

/-- V-D1: three ticks are enough. -/
theorem witness_DebounceNeedsLowHighLow :
    let s := { start 0b0000#4 0 with
      queue := [.moment (tickAt 0 .low .high), .moment (tickAt 25 .high .high), .moment (tickAt 50 .low .high)] }
    (s.slot .slot0).phase = 0b0000#4 ∧ runFor 3 s = .next (got (runFor 3 s)) ∧
      ((got (runFor 3 s)).slot .slot0).phase = 0b0011#4 := ⟨rfl, eq_got (by decide), by decide⟩

/-- L1.3: two ticks see the fault, the dwell runs from the second, and the slot leaves at exactly 2000 ms. -/
theorem witness_SustainedFaultHoldsTheSlot :
    let m0 := tickAt 300 .low .low
    let m := tickAt 975 .low .low
    let n := tickAt 2974 .low .high
    let x := tickAt 2975 .low .high
    let s := { start 0b0100#4 100 with queue := ([m0] ++ [m] ++ ([n] ++ [x])).map Event.moment ++ [] }
    let t := got (runFor 2 s)
    s.queue = ([m0] ++ [m] ++ ([n] ++ [x])).map Event.moment ++ [] ∧
      (∀ k ∈ [m0] ++ [m], plainTick k = true ∧ (k.pins .slot0).faultN = .low) ∧
      (∀ k ∈ [n] ++ [x], plainTick k = true ∧ (k.pins .slot0).faultN = .high) ∧
      (∀ k ∈ [n], k.now < m.now + 2000) ∧ m.now + 2000 ≤ x.now ∧ x.now < m.now + 5000 ∧
      runFor ([m0].length + 1) s = .next t ∧ runFor ([n].length + 1) t = .next (got (runFor 2 t)) :=
  ⟨rfl, by decide, by decide, by decide, by decide, by decide, eq_got (by decide), eq_got (by decide)⟩

/-- V-I1 to V-I9: a tick at 1999 ms, one at exactly 2000 ms, and the next. -/
theorem witness_RecoveryReturnsToIdle :
    let n1 := tickAt 2974 .high .high
    let m := tickAt 2975 .high .high
    let n := tickAt 3000 .high .high
    let s := { start 0b1000#4 975 with queue := ([n1] ++ [m, n]).map Event.moment ++ [] }
    let t := got (runFor 2 s)
    ((s.slot .slot0).phase = 0b1000#4 ∨ (s.slot .slot0).phase = 0b1001#4) ∧
      (s.slot .slot0).entered = clockWord 975 ∧ 975 ≤ s.lastNow ∧ s.lastNow < 975 + 2000 ∧
      s.queue = ([n1] ++ [m, n]).map Event.moment ++ [] ∧
      (∀ k ∈ [n1] ++ [m, n], plainTick k = true ∧ (k.pins .slot0).faultN = .high) ∧
      (∀ k ∈ [n1], k.now < 975 + 2000) ∧ 975 + 2000 ≤ m.now ∧
      m.now ≤ (([n1].map Moment.now).getLast?.getD s.lastNow) + 2000 ∧
      runFor ([n1].length + 1) s = .next t ∧ step t = .next (got (step t)) :=
  ⟨.inl rfl, rfl, by decide, by decide, rfl, by decide, by decide, by decide, by decide, eq_got (by decide), eq_got (by decide)⟩

/-- `w < 128` at both ends. -/
theorem witness_PlacedWordRunsNext : 0 < 128 ∧ 127 < 128 := by decide

/-- A step of 1, the least, with `t0 = t1` and with one tick more; and the two REPEATs of no tick. -/
theorem witness_StimulusLinesLowerAsWritten :
    (0 < 1 ∧ (5#32).toNat ≤ (5#32).toNat ∧ 5 ∈ repeatTimes 5 5 1 ∧ 6 ∈ repeatTimes 5 6 1) ∧
      (5#32).toNat < (6#32).toNat ∧ repeatTimes 6 5 1 = [] ∧ repeatTimes 5 6 0 = [] := by decide

end Sys2Proof.Tests
end

section
/-! SUPPORT. What one slot's step can see (R4, R123), and the slot after a tick as the result of that slot's own step. -/

namespace Sys2Proof.Safety

open Sys2Proof.Machine

theorem plainTick_eq_true {m : Moment} : plainTick m = true ↔ m.tick = true ∧ m.reset = false := by
  simp only [plainTick, Bool.and_eq_true, Bool.not_eq_true']

end Sys2Proof.Safety

namespace Sys2Proof.Machine

open Sys2Proof.Safety

/-- Two machines that look alike to slot `c`: they agree on all that its step reads, which is its own registers, the
configuration, the event and clock samples, and its own two lines (R4, R43, R123). -/
structure SameView (c : SlotId) (s s' : State) : Prop where
  slot  : s.slot c = s'.slot c
  cfg   : s.cfg = s'.cfg
  reset : s.inp.reset = s'.inp.reset
  now   : s.inp.now = s'.inp.now
  pins  : s.inp.pins c = s'.inp.pins c

namespace SameView

variable {c : SlotId} {s s' : State}

/-- The operand of SLOT_STEP is not part of the view. -/
theorem atSlot (h : SameView c s s') (d d' : SlotId) : SameView c (s.atSlot d) (s'.atSlot d') :=
  ⟨by simpa using h.slot, h.cfg, h.reset, h.now, h.pins⟩

theorem presence_eq (h : SameView c s s') : s.presence c = s'.presence c := by
  simp only [State.presence, h.pins]

theorem faultLine_eq (h : SameView c s s') : s.faultLine c = s'.faultLine c := by
  simp only [State.faultLine, h.pins]

theorem faulted_eq (h : SameView c s s') : faulted s c = faulted s' c := by
  unfold faulted
  rw [h.faultLine_eq]

theorem elapsed_eq (h : SameView c s s') : elapsed s c = elapsed s' c := by
  simp only [elapsed, h.now, h.slot]

theorem timeoutCond_eq (h : SameView c s s') : timeoutCond s c = timeoutCond s' c := by
  simp only [timeoutCond, h.slot, h.elapsed_eq]

/-- The slot assembles the same selector, so it fetches the same row (R51). -/
theorem fetch_eq (h : SameView c s s') : fetch s c = fetch s' c := by
  simp only [fetch, selector, h.reset, h.faulted_eq, h.timeoutCond_eq, h.slot]

/-! The shared operations, run on slot `c` in both machines. -/

section

variable (h : SameView c s s') (hs : s.cur = c) (hs' : s'.cur = c)
include h hs hs'

theorem whenPresence_eq (l : Level) (p : Phase) : whenPresence l p s = whenPresence l p s' := by
  simp only [whenPresence, hs, hs', h.presence_eq]

theorem whenDwell_eq (d : Nat) (p : Phase) : whenDwell d p s = whenDwell d p s' := by
  simp only [whenDwell, dwellDone, hs, hs', h.elapsed_eq]

theorem runPhase_slot_eq (q : Phase) {next next' : Option Phase} (hn : next = next') :
    (runPhase q next s).slot c = (runPhase q next' s').slot c := by
  have left := runPhase_slot q next s
  have right := runPhase_slot q next' s'
  rw [hs] at left
  rw [hs'] at right
  rw [left, right]
  simp only [State.curSlot, hs, hs', h.slot, h.cfg, h.now, hn]

theorem takeError_slot_eq (e : ErrorClass) : (takeError e s).slot c = (takeError e s').slot c := by
  have left := takeError_slot e s
  have right := takeError_slot e s'
  rw [hs] at left
  rw [hs'] at right
  rw [left, right]
  simp only [h.cfg, h.now]

/-- Every row's meaning leaves slot `c` the same in both machines. -/
theorem exec_slot_eq (i : Instr) :
    ∃ a a', exec i s = .next a ∧ exec i s' = .next a' ∧ a.slot c = a'.slot c := by
  cases i with
  | reset => exact ⟨_, _, rfl, rfl, by simp only [resetBlock_slot, h.now]⟩
  | faultPreempt => exact ⟨_, _, rfl, rfl, h.takeError_slot_eq hs hs' _⟩
  | globalTimeout => exact ⟨_, _, rfl, rfl, h.takeError_slot_eq hs hs' _⟩
  | phWaitLow => exact ⟨_, _, rfl, rfl, h.runPhase_slot_eq hs hs' _ (h.whenPresence_eq hs hs' _ _)⟩
  | phWaitHigh => exact ⟨_, _, rfl, rfl, h.runPhase_slot_eq hs hs' _ (h.whenPresence_eq hs hs' _ _)⟩
  | phWaitLowAgain => exact ⟨_, _, rfl, rfl, h.runPhase_slot_eq hs hs' _ (h.whenPresence_eq hs hs' _ _)⟩
  | phWaitHighAgain => exact ⟨_, _, rfl, rfl, h.runPhase_slot_eq hs hs' _ (h.whenPresence_eq hs hs' _ _)⟩
  | phSeqBoth1 => exact ⟨_, _, rfl, rfl, h.runPhase_slot_eq hs hs' _ (h.whenDwell_eq hs hs' _ _)⟩
  | phSeqBatteryOnly => exact ⟨_, _, rfl, rfl, h.runPhase_slot_eq hs hs' _ (h.whenDwell_eq hs hs' _ _)⟩
  | phSeqBoth2 => exact ⟨_, _, rfl, rfl, h.runPhase_slot_eq hs hs' _ (h.whenDwell_eq hs hs' _ _)⟩
  | phSeqBusOnly => exact ⟨_, _, rfl, rfl, h.runPhase_slot_eq hs hs' _ (h.whenDwell_eq hs hs' _ _)⟩
  | phFaultIndicate => exact ⟨_, _, rfl, rfl, h.runPhase_slot_eq hs hs' _ (h.whenDwell_eq hs hs' _ _)⟩
  | phTimeoutIndicate => exact ⟨_, _, rfl, rfl, h.runPhase_slot_eq hs hs' _ (h.whenDwell_eq hs hs' _ _)⟩
  | rsvPhaseAB => exact ⟨_, _, rfl, rfl, by simpa using h.slot⟩
  | rsvPhaseCF => exact ⟨_, _, rfl, rfl, by simpa using h.slot⟩

end

/-- SLOT_STEP answers in both machines and leaves slot `c` the same. -/
theorem slotStep_slot_eq (h : SameView c s s') :
    ∃ a a', slotStep c s = .next a ∧ slotStep c s' = .next a' ∧ a.slot c = a'.slot c := by
  simp only [slotStep, ← h.fetch_eq]
  exact (h.atSlot c c).exec_slot_eq rfl rfl (fetch s c)

end SameView

/-- The other slot's step leaves the view of slot `c` as it was, when no reset is sampled. -/
theorem sameView_slotStep_of_ne {c d : SlotId} {s a : State} (hr : s.inp.reset = false) (hcd : c ≠ d)
    (h : slotStep d s = .next a) : SameView c s a := by
  obtain ⟨v, hv⟩ | hm := slotStep_cases d hr
  · cases hv.symm.trans h
    exact ⟨by simp [State.slot_setSlot_of_ne _ _ _ _ hcd], by simp, by simp, by simp, by simp⟩
  · cases hm.symm.trans h
    exact ⟨by simp, rfl, rfl, rfl, rfl⟩

/-- A step that serves a plain tick is the TICK of that moment on the rest of the queue (R60). -/
theorem step_plainTick {s : State} {m : Moment} {rest : List Event} (hq : s.queue = .moment m :: rest)
    (hm : plainTick m = true) : step s = tickEvent m { s with queue := rest } := by
  obtain ⟨htick, hreset⟩ := plainTick_eq_true.mp hm
  simp [step, eventStep, hq, momentStep, htick, hreset]

/-- A slot after a plain tick holds what its own step makes of the tick's samples, whichever slot steps first (R47, R123). -/
theorem slot_after_plainTick {s t : State} {m : Moment} {rest : List Event} (hq : s.queue = .moment m :: rest)
    (hm : plainTick m = true) (h : step s = .next t) (c : SlotId) :
    ∃ a, slotStep c (State.sample { s with queue := rest } m) = .next a ∧ t.slot c = a.slot c := by
  rw [step_plainTick hq hm] at h
  obtain ⟨-, a, b, ha, hb, rfl⟩ := tickEvent_eq_next.mp h
  have hr : (State.sample { s with queue := rest } m).inp.reset = false :=
    (plainTick_eq_true.mp hm).2
  have hview := sameView_slotStep_of_ne (c := .slot1) hr (by decide) ha
  cases c with
  | slot0 =>
    have hkeep := sameView_slotStep_of_ne (c := .slot0) (hview.reset ▸ hr) (by decide) hb
    exact ⟨a, ha, by rw [handFrame_slot, hkeep.slot]⟩
  | slot1 =>
    obtain ⟨a₁, b₁, ha₁, hb₁, heq⟩ := hview.slotStep_slot_eq
    cases hb₁.symm.trans hb
    exact ⟨a₁, ha₁, by rw [handFrame_slot, heq]⟩

/-- The samples of two ticks that agree on slot `c`'s registers and lines, the configuration and the clock look alike to it. -/
theorem sameView_sample {c : SlotId} {s s' : State} {m m' : Moment} (hslot : s.slot c = s'.slot c) (hcfg : s.cfg = s'.cfg)
    (hreset : m.reset = m'.reset) (hnow : m.now = m'.now) (hpins : m.pins c = m'.pins c) :
    SameView c (s.sample m) (s'.sample m') :=
  ⟨by simpa using hslot, hcfg, hreset, by simp [hnow], by simpa using hpins⟩

end Sys2Proof.Machine
end

section

open Sys2Proof Sys2Proof.Machine Sys2Proof.Safety

/-- Settles O52: a slot after a tick is the result of its own step on the samples, and that step reads only what the two
machines agree on. -/
theorem slotsAreIndependent : Obligations.SlotsAreIndependent := by
  intro s s' t t' m m' rest rest' c hq hq' hm hm' hstep hstep' hslot hcfg hnow hpins
  obtain ⟨a, ha, hta⟩ := slot_after_plainTick hq hm hstep c
  obtain ⟨a', ha', hta'⟩ := slot_after_plainTick hq' hm' hstep' c
  have hreset : m.reset = m'.reset := by rw [(plainTick_eq_true.mp hm).2, (plainTick_eq_true.mp hm').2]
  have hview : SameView c (State.sample { s with queue := rest } m) (State.sample { s' with queue := rest' } m') :=
    sameView_sample (by cases c <;> exact hslot) hcfg hreset hnow hpins
  obtain ⟨b, b', hb, hb', heq⟩ := hview.slotStep_slot_eq
  cases hb.symm.trans ha
  cases hb'.symm.trans ha'
  rw [hta, hta', heq]

end

section
/-! SUPPORT. What one event and one slot's step can do, said once: the precedence of R61, and the phase rows as the
document's pure transition function (R32). -/

namespace Sys2Proof.Machine

open Sys2Proof.Safety

/-! ### The queue -/

/-- Taking an event off the queue leaves the slots. -/
@[simp] theorem State.withQueue_slot (s : State) (rest : List Event) (c : SlotId) :
    State.slot { s with queue := rest } c = s.slot c := by cases c <;> rfl

/-! ### The phase rows -/

/-- A presence test answers its target exactly when the line reads the level. -/
theorem whenPresence_fires (l : Level) (q : Phase) (s : State) :
    (s.presence s.cur = l ∧ whenPresence l q s = some q) ∨ (¬ s.presence s.cur = l ∧ whenPresence l q s = none) := by
  by_cases h : s.presence s.cur = l <;> simp [whenPresence, h]

/-- A dwell test answers its target exactly when the elapsed time has reached the dwell. -/
theorem whenDwell_fires (d : Nat) (q : Phase) (s : State) :
    (d ≤ (elapsed s s.cur).toNat ∧ whenDwell d q s = some q) ∨
      (¬ d ≤ (elapsed s s.cur).toNat ∧ whenDwell d q s = none) := by
  by_cases h : d ≤ (elapsed s s.cur).toNat <;> simp [whenDwell, h]

/-- The row of a named phase runs that phase's own logic, which moves to the successor exactly when that is due. -/
theorem exec_decodePhaseRow_code (p : Phase) (s : State) :
    ∃ next, exec (decodePhaseRow p.code) s = .next (runPhase p next s) ∧
      ((due p (s.presence s.cur) (elapsed s s.cur).toNat ∧ next = some (successor p)) ∨
        (¬ due p (s.presence s.cur) (elapsed s s.cur).toNat ∧ next = none)) := by
  cases p with
  | waitLow | waitHigh | waitLowAgain | waitHighAgain => exact ⟨_, rfl, whenPresence_fires _ _ s⟩
  | seqBoth1 | seqBatteryOnly | seqBoth2 | seqBusOnly => exact ⟨_, rfl, whenDwell_fires _ _ s⟩
  | faultIndicate | timeoutIndicate => exact ⟨_, rfl, whenDwell_fires _ _ s⟩

/-- The row of a reserved code is one of the two that only mark (R93). -/
theorem exec_decodePhaseRow_reserved {c : PhaseCode} (h : 10 ≤ c.toNat) (s : State) :
    exec (decodePhaseRow c) s = .next (raiseIllegalPhase s) := by
  have rows : (∃ b, decodePhaseRow c = .rsvPhaseAB b) ∨ ∃ b, decodePhaseRow c = .rsvPhaseCF b := by
    revert c; decide
  obtain ⟨b, hb⟩ | ⟨b, hb⟩ := rows <;> rw [hb] <;> rfl

/-- Taking an error class is a phase step that enters the indicate phase and writes that phase's outputs (R115). -/
theorem takeError_eq_runPhase (e : ErrorClass) (s : State) :
    takeError e s = runPhase (indicatePhase e) (some (indicatePhase e)) s := rfl

/-- A row other than RESET runs a phase step on the current slot or only marks `ILLEGAL_PHASE`. -/
theorem exec_eq_runPhase_or_raise {i : Instr} (hi : i.mnemonic ≠ "RESET") (s : State) :
    (∃ q next, exec i s = .next (runPhase q next s)) ∨ exec i s = .next (raiseIllegalPhase s) := by
  cases i with
  | reset => exact absurd rfl hi
  | faultPreempt => exact .inl ⟨_, _, congrArg _ (takeError_eq_runPhase .fault s)⟩
  | globalTimeout => exact .inl ⟨_, _, congrArg _ (takeError_eq_runPhase .timeout s)⟩
  | rsvPhaseAB | rsvPhaseCF => exact .inr rfl
  | phWaitLow | phWaitHigh | phWaitLowAgain | phWaitHighAgain => exact .inl ⟨_, _, rfl⟩
  | phSeqBoth1 | phSeqBatteryOnly | phSeqBoth2 | phSeqBusOnly => exact .inl ⟨_, _, rfl⟩
  | phFaultIndicate | phTimeoutIndicate => exact .inl ⟨_, _, rfl⟩

/-- The slot that a phase step leaves when it runs on slot `c`, which held the named phase `p`. -/
theorem runPhase_atSlot_slot {s : State} {c : SlotId} {p : Phase} (hp : (s.slot c).phase = p.code) (q : Phase)
    (next : Option Phase) :
    (runPhase q next (s.atSlot c)).slot c =
      { phase := (next.getD p).code
        entered := if next.isSome then s.inp.now else (s.slot c).entered
        batEn := (out s.cfg q s.inp.now).bat, busEn := (out s.cfg q s.inp.now).bus
        color0 := (out s.cfg q s.inp.now).c0, color1 := (out s.cfg q s.inp.now).c1 } := by
  have h := runPhase_slot q next (s.atSlot c)
  cases next <;> simpa [State.curSlot, hp] using h

/-! ### SLOT_STEP, by the precedence of R61 -/

section

variable {s : State} {c : SlotId} (hr : s.inp.reset = false)
include hr

/-- A low fault line preempts every phase (R63). -/
theorem slotStep_of_fault (hf : s.faultLine c = .low) : slotStep c s = .next (takeError .fault (s.atSlot c)) := by
  simp [slotStep, fetch_eq, hr, faulted, hf, exec, execFaultPreempt]

/-- With the fault line high, the timeout condition preempts every phase (R64). -/
theorem slotStep_of_timeout (hf : s.faultLine c = .high) (ht : timeoutCond s c = true) :
    slotStep c s = .next (takeError .timeout (s.atSlot c)) := by
  simp [slotStep, fetch_eq, hr, faulted, hf, ht, exec, execGlobalTimeout]

/-- With neither override, the slot runs the row of its phase code (R61). -/
theorem slotStep_of_no_override (hf : s.faultLine c = .high) (ht : timeoutCond s c = false) :
    slotStep c s = exec (decodePhaseRow (s.slot c).phase) (s.atSlot c) := by
  simp [slotStep, fetch_eq, hr, faulted, hf, ht]

/-- On a slot that holds a named phase, SLOT_STEP is the pure transition function (R32, R61). -/
theorem slotStep_transition {p : Phase} (hp : (s.slot c).phase = p.code) :
    ∃ q next, Transition p (elapsed s c).toNat (s.presence c) (s.faultLine c) q next ∧
      slotStep c s = .next (runPhase q next (s.atSlot c)) := by
  have hwait : (s.slot c).phase = Phase.waitLow.code ↔ p = .waitLow := by rw [hp]; cases p <;> decide
  cases hf : s.faultLine c with
  | low => exact ⟨_, _, .inl ⟨rfl, rfl, rfl⟩, slotStep_of_fault hr hf⟩
  | high =>
    cases ht : timeoutCond s c with
    | true =>
      obtain ⟨hne, hel⟩ := (timeoutCond_eq_true s c).mp ht
      exact ⟨_, _, .inr (.inl ⟨rfl, mt hwait.mpr hne, hel, rfl, rfl⟩), slotStep_of_timeout hr hf ht⟩
    | false =>
      obtain ⟨next, hexec, hown⟩ := exec_decodePhaseRow_code p (s.atSlot c)
      rw [elapsed_atSlot] at hown
      refine ⟨p, next, .inr (.inr ⟨rfl, ?_, rfl, hown⟩), ?_⟩
      · exact ((timeoutCond_eq_false s c).mp ht).imp_left hwait.mp
      · rw [slotStep_of_no_override hr hf ht, hp, hexec]

end

end Sys2Proof.Machine
end

section

open Sys2Proof Sys2Proof.Machine Sys2Proof.Safety

/-- Settles O38: a slot after a tick is what its own step makes of the tick's samples, and on a named phase that step is the
pure transition function. -/
theorem slotStepIsThePureTransition : Obligations.SlotStepIsThePureTransition := by
  intro s t m rest c p hq hm hstep hp
  obtain ⟨a, ha, hta⟩ := slot_after_plainTick hq hm hstep c
  have hphase : ((State.sample { s with queue := rest } m).slot c).phase = p.code := by
    simpa using hp
  obtain ⟨q, next, htr, hrun⟩ := slotStep_transition (c := c) (plainTick_eq_true.mp hm).2 hphase
  cases ha.symm.trans hrun
  refine ⟨q, next, ?_, ?_⟩
  · simpa using htr
  · rw [hta, runPhase_atSlot_slot hphase]
    simp

end

section
/-! SUPPORT. What one step of the block can do, said once. -/

namespace Sys2Proof.Machine

open Sys2Proof.Safety

/-- A step that answers a next state did one of four things: held with no event pending, reset the block, ran both slots'
steps and handed over the frame, or dropped a moment with neither event (R60, R125, R130). -/
theorem step_cases {s t : State} (h : step s = .next t) :
    (s.queue = [] ∧ t = s) ∨
    ∃ m rest, s.queue = .moment m :: rest ∧
      ((m.reset = true ∧ t = resetBlock ((State.sample { s with queue := rest } m).atSlot .slot0)) ∨
       (plainTick m = true ∧ ∃ a b, slotStep .slot0 (State.sample { s with queue := rest } m) = .next a ∧
          slotStep .slot1 a = .next b ∧ t = handFrame b) ∨
       (m.reset = false ∧ m.tick = false ∧ t = { s with queue := rest })) := by
  simp only [step, eventStep] at h
  split at h
  case h_1 hq => exact .inl ⟨hq, by simpa using h.symm⟩
  case h_3 | h_4 => cases h
  case h_2 m rest hq =>
    refine .inr ⟨m, rest, hq, ?_⟩
    simp only [momentStep] at h
    split_ifs at h with hreset htick
    · exact .inl ⟨hreset, ((resetEvent_eq_next hreset).mp h).2⟩
    · obtain ⟨-, hruns⟩ := tickEvent_eq_next.mp h
      exact .inr (.inl ⟨plainTick_eq_true.mpr ⟨htick, by simpa using hreset⟩, hruns⟩)
    · exact .inr (.inr ⟨by simpa using hreset, by simpa using htick, by simpa using h.symm⟩)

/-- A step that serves a moment with the reset event is RESET of the block at that moment (R130). -/
theorem step_reset {s : State} {m : Moment} {rest : List Event} (hq : s.queue = .moment m :: rest)
    (hm : m.reset = true) : step s = resetEvent m { s with queue := rest } := by
  simp [step, eventStep, hq, momentStep, hm]

/-- What the reset leaves and every plain tick's slot step keeps, each step of the block keeps in every slot. -/
theorem step_keeps_slots {P : Slot → Prop} (hreset : ∀ now, P (Slot.afterReset now))
    (hslot : ∀ {s a : State} {c : SlotId}, s.inp.reset = false → P (s.slot c) → slotStep c s = .next a → P (a.slot c))
    {s t : State} (hs : ∀ c, P (s.slot c)) (h : step s = .next t) (c : SlotId) : P (t.slot c) := by
  obtain ⟨-, rfl⟩ | ⟨m, rest, hq, ⟨-, rfl⟩ | ⟨hm, -⟩ | ⟨-, -, rfl⟩⟩ := step_cases h
  · exact hs c
  · simpa using hreset _
  · obtain ⟨a, ha, hta⟩ := slot_after_plainTick hq hm h c
    exact hta ▸ hslot (plainTick_eq_true.mp hm).2 (by simpa using hs c) ha
  · simpa using hs c

/-- No row writes the configuration. -/
theorem exec_cfg {i : Instr} {s a : State} (h : exec i s = .next a) : a.cfg = s.cfg := by
  obtain ⟨_, _, _, -, hreset⟩ | ⟨-, v, hv⟩ | ⟨-, hmark⟩ := exec_cases i s
  · cases hreset.symm.trans h; rfl
  · cases hv.symm.trans h; simp
  · cases hmark.symm.trans h; rfl

/-- No slot's step writes the configuration. -/
theorem slotStep_cfg {s a : State} {c : SlotId} (h : slotStep c s = .next a) : a.cfg = s.cfg :=
  exec_cfg (s := s.atSlot c) h

/-- No step writes the configuration (R31). -/
theorem step_cfg {s t : State} (h : step s = .next t) : t.cfg = s.cfg := by
  obtain ⟨-, rfl⟩ | ⟨m, rest, -, ⟨-, rfl⟩ | ⟨-, a, b, ha, hb, rfl⟩ | ⟨-, -, rfl⟩⟩ := step_cases h
  · rfl
  · rfl
  · rw [handFrame_cfg, slotStep_cfg hb, slotStep_cfg ha, State.sample_cfg]
  · rfl

end Sys2Proof.Machine
end

section
/-! SUPPORT. The output pins and the frame port as views of their registers (R8, R29). -/

namespace Sys2Proof.Machine

theorem driveLevel_eq_high (enable : Bool) : driveLevel enable = .high ↔ enable = true := by cases enable <;> decide

theorem Frame.bits_w3 (f : Frame) : f.bits.extractLsb' 0 24 = f.w3 := BitVec.extractLsb'_append_eq_right

theorem Frame.bits_w2 (f : Frame) : f.bits.extractLsb' 24 24 = f.w2 := by
  rw [Frame.bits, BitVec.extractLsb'_append_eq_of_le (by decide), BitVec.extractLsb'_append_eq_right]

theorem Frame.bits_w1 (f : Frame) : f.bits.extractLsb' 48 24 = f.w1 := by
  rw [Frame.bits, BitVec.extractLsb'_append_eq_of_le (by decide), BitVec.extractLsb'_append_eq_of_le (by decide),
    BitVec.extractLsb'_append_eq_right]

theorem Frame.bits_w0 (f : Frame) : f.bits.extractLsb' 72 24 = f.w0 := by
  rw [Frame.bits, BitVec.extractLsb'_append_eq_of_le (by decide), BitVec.extractLsb'_append_eq_of_le (by decide),
    BitVec.extractLsb'_append_eq_left]

end Sys2Proof.Machine
end

section
/-! SUPPORT. `FAULT_MARK` after a slot's step and after a tick (R34, R93, R119). -/

namespace Sys2Proof.Machine

open Sys2Proof.Safety

/-- Slot `c`'s step raises `ILLEGAL_PHASE`: a reserved code, and neither override (R93, R119). -/
def RaisesMark (s : State) (c : SlotId) : Prop :=
  10 ≤ (s.slot c).phase.toNat ∧ s.faultLine c = .high ∧ (elapsed s c).toNat < 5000

/-- Slots that look alike raise the mark alike. -/
theorem SameView.raisesMark_iff {c : SlotId} {s s' : State} (h : SameView c s s') :
    RaisesMark s c ↔ RaisesMark s' c := by
  simp only [RaisesMark, h.slot, h.faultLine_eq, h.elapsed_eq]

@[simp] theorem runPhase_faultMark (q : Phase) (next : Option Phase) (s : State) :
    (runPhase q next s).faultMark = s.faultMark := by simp [runPhase]

@[simp] theorem takeError_faultMark (e : ErrorClass) (s : State) : (takeError e s).faultMark = s.faultMark := by
  simp [takeError]

/-- The mark after a slot's step: it was set, or this step raised it. -/
theorem slotStep_faultMark {s a : State} {c : SlotId} (hr : s.inp.reset = false) (h : slotStep c s = .next a) :
    a.faultMark = true ↔ s.faultMark = true ∨ RaisesMark s c := by
  cases hcode : Phase.ofCode (s.slot c).phase with
  | some p =>
    have hlegal : ¬ RaisesMark s c := fun hraise => by
      simp [(Phase.ofCode_none_iff _).mpr hraise.1] at hcode
    obtain ⟨q, next, -, hrun⟩ := slotStep_transition hr (Phase.code_of_ofCode hcode)
    cases hrun.symm.trans h
    simp [hlegal]
  | none =>
    have hres := (Phase.ofCode_none_iff _).mp hcode
    cases hf : s.faultLine c with
    | low =>
      cases (slotStep_of_fault hr hf).symm.trans h
      simp [RaisesMark, hf]
    | high =>
      cases ht : timeoutCond s c with
      | true =>
        have hel := ((timeoutCond_eq_true s c).mp ht).2
        cases (slotStep_of_timeout hr hf ht).symm.trans h
        simp [RaisesMark, hel]
      | false =>
        have hne : (s.slot c).phase ≠ Phase.waitLow.code := fun hwait => by simp [hwait] at hcode
        have hel := ((timeoutCond_eq_false s c).mp ht).resolve_left hne
        rw [slotStep_of_no_override hr hf ht, exec_decodePhaseRow_reserved hres] at h
        cases h
        simp [RaisesMark, hres, hf, hel]

/-- The mark after both slots' steps. -/
theorem slotSteps_faultMark {s a b : State} (hr : s.inp.reset = false) (ha : slotStep .slot0 s = .next a)
    (hb : slotStep .slot1 a = .next b) : b.faultMark = true ↔ s.faultMark = true ∨ ∃ c, RaisesMark s c := by
  have hview := sameView_slotStep_of_ne (c := .slot1) hr (by decide) ha
  have hexists : (∃ c, RaisesMark s c) ↔ RaisesMark s .slot0 ∨ RaisesMark s .slot1 :=
    ⟨fun ⟨c, hc⟩ => by cases c <;> simp [hc], fun hc => hc.elim (⟨_, ·⟩) (⟨_, ·⟩)⟩
  rw [slotStep_faultMark (hview.reset ▸ hr) hb, slotStep_faultMark hr ha, hview.raisesMark_iff.symm, hexists, or_assoc]

/-- The mark after a plain tick, in terms of the tick's samples. -/
theorem faultMark_after_plainTick {s t : State} {m : Moment} {rest : List Event} (hq : s.queue = .moment m :: rest)
    (hm : plainTick m = true) (h : step s = .next t) :
    t.faultMark = true ↔ s.faultMark = true ∨ ∃ c, RaisesMark (State.sample { s with queue := rest } m) c := by
  rw [step_plainTick hq hm] at h
  obtain ⟨-, a, b, ha, hb, rfl⟩ := tickEvent_eq_next.mp h
  simpa using slotSteps_faultMark (plainTick_eq_true.mp hm).2 ha hb

/-- What raises the mark at a tick, in terms of the registers and the lines. -/
theorem raisesMark_sample {s : State} {m : Moment} {c : SlotId} :
    RaisesMark (s.sample m) c ↔
      10 ≤ (s.slot c).phase.toNat ∧ (m.pins c).faultN = .high ∧ (clockWord m.now - (s.slot c).entered).toNat < 5000 := by
  simp only [RaisesMark, State.sample_slot, State.sample_faultLine, elapsed_sample]

end Sys2Proof.Machine
end

section
/-! SUPPORT. Legal codes, fitting rails and the pure transition function: what a slot's step keeps (R22, R33, R61). -/

namespace Sys2Proof.Safety

open Sys2Proof.Machine

/-- A legal code is some named phase's code (R21). -/
theorem legalCode_iff {c : PhaseCode} : legalCode c = true ↔ ∃ p : Phase, c = p.code := by
  constructor
  · intro h
    obtain ⟨p, hp⟩ := Option.isSome_iff_exists.mp h
    exact ⟨p, Phase.code_of_ofCode hp⟩
  · rintro ⟨p, rfl⟩
    simp [legalCode]

theorem legalPhases_iff {s : State} : LegalPhases s ↔ ∀ c, legalCode (s.slot c).phase = true :=
  ⟨fun ⟨h0, h1⟩ c => by cases c; exacts [h0, h1], fun h => ⟨h .slot0, h .slot1⟩⟩

theorem railsFollow_iff {s : State} : RailsFollow s ↔ ∀ c, railsFit (s.slot c) = true :=
  ⟨fun ⟨h0, h1⟩ c => by cases c; exacts [h0, h1], fun h => ⟨h .slot0, h .slot1⟩⟩

/-- Rails fit a named phase when they are among its pairs. -/
theorem railsFit_eq_true_iff {v : Slot} {p : Phase} (hp : v.phase = p.code) :
    railsFit v = true ↔ (v.batEn, v.busEn) ∈ railPairs p := by
  simp [railsFit, hp]

/-- Only a slot with a legal code has rails that fit. -/
theorem legalCode_of_railsFit {v : Slot} (h : railsFit v = true) : legalCode v.phase = true := by
  unfold railsFit at h
  split at h
  · next hp => simp [legalCode, hp]
  · cases h

/-- A phase's own rails are among those it can hold. -/
theorem rails_mem_railPairs (cfg : Configuration) (p : Phase) (t : Time) :
    ((out cfg p t).bat, (out cfg p t).bus) ∈ railPairs p := by
  cases p <;> simp [out, railPairs]

/-- The rails of the phase it is entered from are among those the successor can hold (R84, R134). -/
theorem rails_mem_railPairs_successor (cfg : Configuration) (p : Phase) (t : Time) :
    ((out cfg p t).bat, (out cfg p t).bus) ∈ railPairs (successor p) := by
  cases p <;> simp [out, railPairs, successor]

/-- The rails a transition writes are among those the phase held after it can hold. -/
theorem rails_mem_railPairs_of_transition {p q : Phase} {el : Nat} {presence fault : Level} {next : Option Phase}
    (h : Transition p el presence fault q next) (cfg : Configuration) (t : Time) :
    ((out cfg q t).bat, (out cfg q t).bus) ∈ railPairs (next.getD p) := by
  obtain ⟨-, rfl, rfl⟩ | ⟨-, -, -, rfl, rfl⟩ | ⟨-, -, rfl, ⟨-, rfl⟩ | ⟨-, rfl⟩⟩ := h
  · exact rails_mem_railPairs cfg .faultIndicate t
  · exact rails_mem_railPairs cfg .timeoutIndicate t
  · exact rails_mem_railPairs_successor cfg q t
  · exact rails_mem_railPairs cfg q t

section

variable {p q q' : Phase} {el : Nat} {presence fault : Level} {next next' : Option Phase}

theorem transition_of_fault :
    Transition p el presence .low q next ↔ q = .faultIndicate ∧ next = some .faultIndicate := by
  simp [Transition]

theorem transition_of_timeout (hp : p ≠ .waitLow) (hel : 5000 ≤ el) :
    Transition p el presence .high q next ↔ q = .timeoutIndicate ∧ next = some .timeoutIndicate := by
  simp [Transition, hp, hel, Nat.not_lt.mpr hel]

theorem transition_of_no_override (h : p = .waitLow ∨ el < 5000) :
    Transition p el presence .high q next ↔
      q = p ∧ ((due p presence el ∧ next = some (successor p)) ∨ (¬ due p presence el ∧ next = none)) := by
  simp only [Transition, h, reduceCtorEq, false_and, true_and, false_or]
  exact or_iff_right fun ⟨hp, hel, _⟩ => h.elim hp (Nat.not_lt.mpr hel)

/-- The precedence list leaves one outcome: the output row and the phase entered are determined (R61, R114). -/
theorem transition_unique (h : Transition p el presence fault q next) (h' : Transition p el presence fault q' next') :
    q = q' ∧ next = next' := by
  cases fault with
  | low =>
    obtain ⟨rfl, rfl⟩ := transition_of_fault.mp h
    obtain ⟨rfl, rfl⟩ := transition_of_fault.mp h'
    exact ⟨rfl, rfl⟩
  | high =>
    by_cases hown : p = .waitLow ∨ el < 5000
    · obtain ⟨rfl, hnext⟩ := (transition_of_no_override hown).mp h
      obtain ⟨rfl, hnext'⟩ := (transition_of_no_override hown).mp h'
      refine ⟨rfl, Eq.symm ?_⟩
      obtain ⟨hdue, rfl⟩ | ⟨hdue, rfl⟩ := hnext <;> simpa [hdue] using hnext'
    · obtain ⟨hp, hel⟩ := not_or.mp hown
      obtain ⟨rfl, rfl⟩ := (transition_of_timeout hp (Nat.not_lt.mp hel)).mp h
      obtain ⟨rfl, rfl⟩ := (transition_of_timeout hp (Nat.not_lt.mp hel)).mp h'
      exact ⟨rfl, rfl⟩

end

/-- A slot step keeps a named phase, and leaves rails that fit it. -/
theorem slotStep_legal_and_railsFit {s a : State} {c : SlotId} (hr : s.inp.reset = false)
    (hlegal : legalCode (s.slot c).phase = true) (h : slotStep c s = .next a) :
    legalCode (a.slot c).phase = true ∧ railsFit (a.slot c) = true := by
  obtain ⟨p, hp⟩ := legalCode_iff.mp hlegal
  obtain ⟨q, next, htr, hrun⟩ := slotStep_transition hr hp
  cases hrun.symm.trans h
  rw [runPhase_atSlot_slot hp]
  exact ⟨legalCode_iff.mpr ⟨next.getD p, rfl⟩,
    (railsFit_eq_true_iff (p := next.getD p) rfl).mpr (rails_mem_railPairs_of_transition htr s.cfg s.inp.now)⟩

end Sys2Proof.Safety
end

section

open Sys2Proof Sys2Proof.Machine Sys2Proof.Safety

/-- Settles O45: RESET leaves `WAIT_LOW`, and the pure transition function only enters named phases. -/
theorem stepKeepsLegalPhases : Obligations.StepKeepsLegalPhases := by
  intro s t hs h
  rw [legalPhases_iff] at hs ⊢
  exact step_keeps_slots (P := fun v => legalCode v.phase = true) (fun _ => rfl)
    (fun hr hlegal hstep => (slotStep_legal_and_railsFit hr hlegal hstep).1) hs h

/-- Settles O48: the rails after a slot's step are those of the phase held, or of the one it was entered from. -/
theorem stepKeepsTheRailsInStep : Obligations.StepKeepsTheRailsInStep := by
  intro s t hs h
  rw [railsFollow_iff] at hs ⊢
  exact step_keeps_slots (P := fun v => railsFit v = true) (fun _ => rfl)
    (fun hr hfit hstep => (slotStep_legal_and_railsFit hr (legalCode_of_railsFit hfit) hstep).2) hs h

/-- Settles O31: a row other than RESET runs a phase step, which writes both by ENTER or neither, or only marks. -/
theorem timerBaseIsWrittenOnlyByEnter : Obligations.TimerBaseIsWrittenOnlyByEnter := by
  intro i s t hi h
  obtain ⟨q, next, hrun⟩ | hmark := exec_eq_runPhase_or_raise hi s
  · cases hrun.symm.trans h
    rw [runPhase_slot]
    cases next with
    | none => exact .inl ⟨rfl, rfl⟩
    | some p => exact .inr ⟨p, rfl, rfl⟩
  · cases hmark.symm.trans h
    exact .inl (by simp)

/-- Settles O47: a tick writes the frame whole, RESET writes it and the colors `OFF`, and nothing else writes either. -/
theorem stepKeepsTheFrameCurrent : Obligations.StepKeepsTheFrameCurrent := by
  intro s t hs h
  obtain ⟨-, rfl⟩ | ⟨m, rest, -, ⟨-, rfl⟩ | ⟨-, a, b, -, -, rfl⟩ | ⟨-, -, rfl⟩⟩ := step_cases h
  · exact hs
  · rfl
  · rfl
  · exact hs

/-- Settles O50: the mark after the two slot steps of a tick, after RESET, and after a step with neither event. -/
theorem faultMarkIsStickyUntilReset : Obligations.FaultMarkIsStickyUntilReset := by
  intro s t h
  refine ⟨fun m rest hq hm => ?_, fun m rest hq hreset => ?_, fun hquiet => ?_⟩
  · rw [faultMark_after_plainTick hq hm h]
    simp only [raisesMark_sample, State.withQueue_slot]
  · rw [step_reset hq hreset] at h
    obtain ⟨-, rfl⟩ := (resetEvent_eq_next hreset).mp h
    rfl
  · obtain ⟨-, rfl⟩ | ⟨m, rest, hq, ⟨hreset, -⟩ | ⟨hm, -⟩ | ⟨-, -, rfl⟩⟩ := step_cases h
    · rfl
    · cases hreset.symm.trans (hquiet m rest hq).1
    · cases (plainTick_eq_true.mp hm).1.symm.trans (hquiet m rest hq).2
    · rfl

/-- Settles O51, by induction on the number of steps. -/
theorem configurationIsNeverWritten : Obligations.ConfigurationIsNeverWritten := by
  intro s t k
  induction k generalizing s with
  | zero =>
    intro h
    cases h
    rfl
  | succ k ih =>
    intro h
    obtain ⟨u, hstep, hrun⟩ := runFor_succ_eq_next.mp h
    rw [ih u hrun, step_cfg hstep]

/-- Settles O53: both slots are what the pure transition function gives (O38), and its inputs, the phase, the timer base, the
configuration, the clock and the lines, agree. -/
theorem outputsNeverDependOnHistory : Obligations.OutputsNeverDependOnHistory := by
  intro s s' t t' m m' rest rest' c p hq hq' hm hm' hstep hstep' hp hp' hentered hcfg hnow hpins
  obtain ⟨q, next, htr, heq⟩ := slotStepIsThePureTransition s t m rest c p hq hm hstep hp
  obtain ⟨q', next', htr', heq'⟩ := slotStepIsThePureTransition s' t' m' rest' c p hq' hm' hstep' hp'
  rw [← hnow, ← hentered, ← hpins] at htr'
  obtain ⟨rfl, rfl⟩ := transition_unique htr htr'
  rw [heq, heq', hentered, hcfg, hnow]

/-- Settles O8: each signal's definition, by its own lemma. -/
theorem conditionSignals : Obligations.ConditionSignals := by
  intro s c d t
  exact ⟨faulted_eq_true s c, presLow_eq_true s c, presHigh_eq_true s c, elapsed_eq s c, timeoutCond_eq_true s c,
    dwellDone_eq_true s c d, flashLit_eq_true t⟩

/-- Settles O14: a pin is driven high exactly by a set enable, and the frame port is the four words joined, first word on
top. -/
theorem outputPinsShowTheirRegisters : Obligations.OutputPinsShowTheirRegisters := by
  intro s c
  exact ⟨driveLevel_eq_high _, driveLevel_eq_high _, s.frame.bits_w0, s.frame.bits_w1, s.frame.bits_w2, s.frame.bits_w3⟩

end

section
/-! SUPPORT. The rows by what they write, and SLOT_STEP as one change of the state that every machine with the same view of
the slot makes (R47, R61, R123). -/

namespace Sys2Proof.Machine

/-! ### The rows (R61, R93) -/

/-- A reserved row only marks `ILLEGAL_PHASE`. -/
theorem exec_of_reserved {i : Instr} (h : i.mnemonic = "RSV_PHASE_A_B" ∨ i.mnemonic = "RSV_PHASE_C_F") (s : State) :
    exec i s = .next (raiseIllegalPhase s) := by
  cases i with
  | rsvPhaseAB | rsvPhaseCF => rfl
  | _ => simp [Instr.mnemonic] at h

/-- A row other than RESET and the reserved ones writes the current slot, and only that. -/
theorem exec_of_slotRow {i : Instr} (hreset : i.mnemonic ≠ "RESET")
    (hres : ¬ (i.mnemonic = "RSV_PHASE_A_B" ∨ i.mnemonic = "RSV_PHASE_C_F")) (s : State) :
    ∃ v, exec i s = .next (s.setSlot s.cur v) := by
  obtain ⟨f, t, p, rfl, -⟩ | ⟨-, hwrite⟩ | ⟨hmark, -⟩ := exec_cases i s
  · exact absurd rfl hreset
  · exact hwrite
  · exact absurd hmark hres

/-- Without the reset event no slot fetches RESET (R53). -/
theorem fetch_ne_reset {s : State} (hr : s.inp.reset = false) (c : SlotId) : (fetch s c).mnemonic ≠ "RESET" := by
  rw [fetch_eq, hr, if_neg Bool.false_ne_true]
  split_ifs
  · simp [Instr.mnemonic]
  · simp [Instr.mnemonic]
  · exact decodePhaseRow_ne_reset _

/-! ### SLOT_STEP as a change -/

/-- What a slot's step does to the state: it writes slot `c`, or with nothing to write it marks `ILLEGAL_PHASE`. -/
def applyChange (c : SlotId) (change : Option Slot) (s : State) : State :=
  match change with
  | some v => (s.atSlot c).setSlot c v
  | none => raiseIllegalPhase (s.atSlot c)

/-- Once the frame is handed over, changes of the two slots commute: they write apart, and the mark only goes up (R47). -/
theorem handFrame_applyChange_comm (x y : Option Slot) (s : State) :
    handFrame (applyChange .slot1 y (applyChange .slot0 x s)) =
      handFrame (applyChange .slot0 x (applyChange .slot1 y s)) := by
  cases x with
  | none => cases y <;> rfl
  | some v => cases y <;> rfl

theorem SameView.refl (c : SlotId) (s : State) : SameView c s s := ⟨rfl, rfl, rfl, rfl, rfl⟩

/-- Without the reset event, what slot `c`'s step does is one change, the same in every machine that looks alike to it. -/
theorem slotStep_eq_applyChange {s : State} (hr : s.inp.reset = false) (c : SlotId) :
    ∃ change, ∀ s', SameView c s s' → slotStep c s' = .next (applyChange c change s') := by
  by_cases hres : (fetch s c).mnemonic = "RSV_PHASE_A_B" ∨ (fetch s c).mnemonic = "RSV_PHASE_C_F"
  · refine ⟨none, fun s' h => ?_⟩
    rw [slotStep, ← h.fetch_eq]
    exact exec_of_reserved hres _
  · obtain ⟨v, hv⟩ := exec_of_slotRow (fetch_ne_reset hr c) hres (s.atSlot c)
    refine ⟨some v, fun s' h => ?_⟩
    obtain ⟨v', hv'⟩ := exec_of_slotRow (fetch_ne_reset hr c) hres (s'.atSlot c)
    rw [h.fetch_eq] at hv'
    obtain ⟨a, a', ha, ha', heq⟩ := h.slotStep_slot_eq
    cases ha.symm.trans hv
    cases ha'.symm.trans hv'
    have hvv' : v = v' := by simpa using heq
    rw [hvv']
    exact ha'

end Sys2Proof.Machine
end

section

open Sys2Proof Sys2Proof.Machine

/-- Settles O54: each slot's step makes the same change before and after the other's, as it leaves the view of the other
slot, and the two changes commute under the frame. -/
theorem slotOrderIsNotObservable : Obligations.SlotOrderIsNotObservable := by
  intro s hr
  obtain ⟨x, hx⟩ := slotStep_eq_applyChange hr .slot0
  obtain ⟨y, hy⟩ := slotStep_eq_applyChange hr .slot1
  have h0 := hx s (.refl _ s)
  have h1 := hy s (.refl _ s)
  have hview0 := sameView_slotStep_of_ne (c := .slot0) hr (by decide) h1
  have hview1 := sameView_slotStep_of_ne (c := .slot1) hr (by decide) h0
  exact ⟨_, _, _, _, h0, hy _ hview1, h1, hx _ hview0, handFrame_applyChange_comm x y s⟩

/-- Settles O29: such a row is a write of the current slot, and that write leaves every other field. -/
theorem slotRowsWriteOnlyTheirSlot : Obligations.SlotRowsWriteOnlyTheirSlot := by
  intro i s t hreset hAB hCF h
  obtain ⟨v, hv⟩ := exec_of_slotRow hreset (not_or.mpr ⟨hAB, hCF⟩) s
  cases hv.symm.trans h
  simp

end

section
/-! SUPPORT. The decoder and the encoder as inverses, the byte form, and the color channels (R50, R53, R55). -/

namespace Sys2Proof

/-! ### Selectors (R50, R53) -/

/-- A selector is its four fields packed (R50). -/
theorem packSelector_fields (sel : Selector) : packSelector (selR sel) (selF sel) (selT sel) (selP sel) = sel := by
  revert sel; decide

/-- The row of a phase code is encoded by that code with R, F and T clear (R53). -/
theorem encodeSelector_decodePhaseRow (p : PhaseCode) :
    encodeSelector (decodePhaseRow p) = packSelector false false false p := by
  revert p; decide

@[simp] theorem encodeSelector_decodeSelector (sel : Selector) : encodeSelector (decodeSelector sel) = sel := by
  conv_rhs => rw [← packSelector_fields sel]
  unfold decodeSelector
  cases selR sel with
  | true => rfl
  | false =>
    cases selF sel with
    | true => rfl
    | false =>
      cases selT sel with
      | true => rfl
      | false => exact encodeSelector_decodePhaseRow (selP sel)

@[simp] theorem decodeSelector_encodeSelector (i : Instr) : decodeSelector (encodeSelector i) = i := by
  cases i with
  | reset | faultPreempt | globalTimeout => rw [encodeSelector, decodeSelector_pack]; rfl
  | phWaitLow | phWaitHigh | phWaitLowAgain | phWaitHighAgain => rfl
  | phSeqBoth1 | phSeqBatteryOnly | phSeqBoth2 | phSeqBusOnly => rfl
  | phFaultIndicate | phTimeoutIndicate => rfl
  | rsvPhaseAB b => revert b; decide
  | rsvPhaseCF b => revert b; decide

/-! ### The selector map (R53) -/

/-- The row that bears an instruction's mnemonic matches the instruction's selector, whatever its don't-care bits. -/
theorem exists_tableRow (i : Instr) : Laws.TableRow.Statement i := by
  cases i with
  | reset f t p => exact Laws.TableRow.reset f t p
  | faultPreempt t p => exact Laws.TableRow.faultPreempt t p
  | globalTimeout p => exact Laws.TableRow.globalTimeout p
  | phWaitLow => exact Laws.TableRow.phWaitLow
  | phWaitHigh => exact Laws.TableRow.phWaitHigh
  | phWaitLowAgain => exact Laws.TableRow.phWaitLowAgain
  | phSeqBoth1 => exact Laws.TableRow.phSeqBoth1
  | phSeqBatteryOnly => exact Laws.TableRow.phSeqBatteryOnly
  | phSeqBoth2 => exact Laws.TableRow.phSeqBoth2
  | phSeqBusOnly => exact Laws.TableRow.phSeqBusOnly
  | phWaitHighAgain => exact Laws.TableRow.phWaitHighAgain
  | phFaultIndicate => exact Laws.TableRow.phFaultIndicate
  | phTimeoutIndicate => exact Laws.TableRow.phTimeoutIndicate
  | rsvPhaseAB b => exact Laws.TableRow.rsvPhaseAB b
  | rsvPhaseCF b => exact Laws.TableRow.rsvPhaseCF b

/-- "Exactly one row matches each value" (R53). -/
theorem length_filter_hits (sel : Selector) : (selectorTable.filter fun row => row.hits sel).length = 1 := by
  revert sel; decide

theorem hits_unique {sel : Selector} {row row' : SelectorRow} (hrow : row ∈ selectorTable) (hrow' : row' ∈ selectorTable)
    (h : row.hits sel = true) (h' : row'.hits sel = true) : row = row' := by
  obtain ⟨only, honly⟩ := List.length_eq_one_iff.mp (length_filter_hits sel)
  have hmem : row ∈ [only] := honly ▸ List.mem_filter.mpr ⟨hrow, h⟩
  have hmem' : row' ∈ [only] := honly ▸ List.mem_filter.mpr ⟨hrow', h'⟩
  rw [List.mem_singleton.mp hmem, List.mem_singleton.mp hmem']

/-- No two rows of the map bear one mnemonic. -/
theorem mnemonic_injOn_selectorTable :
    ∀ row ∈ selectorTable, ∀ row' ∈ selectorTable, row.mnemonic = row'.mnemonic → row = row' := by decide

/-- The decoder picks a row exactly when the selector matches it (R53). -/
theorem mnemonic_decodeSelector_iff_hits {row : SelectorRow} (hrow : row ∈ selectorTable) (sel : Selector) :
    (decodeSelector sel).mnemonic = row.mnemonic ↔ row.hits sel = true := by
  obtain ⟨own, hown, hname, hhits⟩ := exists_tableRow (decodeSelector sel)
  rw [encodeSelector_decodeSelector] at hhits
  constructor
  · intro h
    rwa [mnemonic_injOn_selectorTable row hrow own hown (h.symm.trans hname.symm)]
  · intro h
    rw [hits_unique hrow hown h hhits, hname]

/-- A row of the map given by its `match` and `mask`, as the decoder's condition. -/
theorem mnemonic_decodeSelector_iff {name : String} {pattern mask : Selector}
    (hrow : (⟨name, pattern, mask⟩ : SelectorRow) ∈ selectorTable) (sel : Selector) :
    (decodeSelector sel).mnemonic = name ↔ sel &&& mask = pattern :=
  (mnemonic_decodeSelector_iff_hits hrow sel).trans beq_iff_eq

/-- A row of the map whose mask leaves no bit free. -/
theorem mnemonic_decodeSelector_iff_eq {name : String} {pattern : Selector}
    (hrow : (⟨name, pattern, 0x7F#7⟩ : SelectorRow) ∈ selectorTable) (sel : Selector) :
    (decodeSelector sel).mnemonic = name ↔ sel = pattern := by
  rw [mnemonic_decodeSelector_iff hrow, show (0x7F#7 : Selector) = BitVec.allOnes 7 from rfl, BitVec.and_allOnes]

/-! ### The byte form -/

/-- A selector laid out as a byte with bit 7 clear decodes to its row and leaves the bytes after it. -/
theorem decode_selectorByte (sel : Selector) (rest : List Byte) :
    decode ((0b0#1 ++ sel) :: rest) = .ok (decodeSelector sel, rest) := by
  have hbit : (0b0#1 ++ sel).getLsbD 7 = false := by rw [BitVec.getLsbD_append]; rfl
  have hsel : (0b0#1 ++ sel).extractLsb' 0 7 = sel := BitVec.extractLsb'_append_eq_right
  simp only [decode, hbit, hsel, Bool.false_eq_true, if_false]

theorem decode_encode (i : Instr) (rest : List Byte) : decode (encode i ++ rest) = .ok (i, rest) := by
  rw [encode, List.singleton_append, decode_selectorByte, decodeSelector_encodeSelector]

/-- A word below 128 is read as the selector with those bits. -/
theorem decodeTableWord_eq_some {w : Nat} (hw : w < 128) :
    decodeTableWord 8 w = some (decodeSelector (BitVec.ofNat 7 w)) := by
  have hbyte : wordBytes 1 w = [0b0#1 ++ BitVec.ofNat 7 w] := by
    have happend : BitVec.ofNat 8 w = 0b0#1 ++ BitVec.ofNat 7 w := by
      apply BitVec.eq_of_toNat_eq
      simp only [BitVec.toNat_append, BitVec.toNat_ofNat, Nat.zero_mod, Nat.zero_shiftLeft, Nat.zero_or]
      omega
    rw [wordBytes, wordBytes, happend]
  rw [decodeTableWord, if_neg (by omega), hbyte, decode_selectorByte]

end Sys2Proof

/-! ### Color channels (R55) -/

namespace Sys2Proof.Machine

variable (r g b : Byte)

@[simp] theorem blueOf_packColor : blueOf (packColor r g b) = b := BitVec.extractLsb'_append_eq_right

@[simp] theorem greenOf_packColor : greenOf (packColor r g b) = g := by
  rw [greenOf, packColor, BitVec.extractLsb'_append_eq_of_le (by decide), BitVec.extractLsb'_append_eq_right]

@[simp] theorem redOf_packColor : redOf (packColor r g b) = r := by
  rw [redOf, packColor, BitVec.extractLsb'_append_eq_of_le (by decide), BitVec.extractLsb'_append_eq_left]

theorem toNat_append_byte {n : Nat} (x : BitVec n) : (x ++ b).toNat = x.toNat * 2 ^ 8 + b.toNat := by
  rw [BitVec.toNat_append, ← Nat.shiftLeft_add_eq_or_of_lt b.isLt, Nat.shiftLeft_eq]

theorem toNat_packColor : (packColor r g b).toNat = r.toNat * 2 ^ 16 + g.toNat * 2 ^ 8 + b.toNat := by
  rw [packColor, toNat_append_byte, toNat_append_byte]
  ring

theorem packColor_channels (w : Color) : packColor (redOf w) (greenOf w) (blueOf w) = w := by
  rw [packColor, redOf, greenOf, blueOf, BitVec.extractLsb'_append_extractLsb'_eq_extractLsb' (show 16 = 8 + 8 from rfl),
    BitVec.extractLsb'_append_extractLsb'_eq_extractLsb' (show 8 = 0 + 8 from rfl), BitVec.extractLsb'_eq_self]

end Sys2Proof.Machine
end

section

open Sys2Proof Sys2Proof.Machine

/-- Settles O1: the byte is the instruction's selector with bit 7 clear, and decoding the selector undoes its encoding. -/
theorem decodeReadsBackEncode : Obligations.DecodeReadsBackEncode :=
  decode_encode

/-- Settles O2: in each branch of the decoder the fields it keeps and the ones it tested pack to the selector. -/
theorem encodeReadsBackDecode : Obligations.EncodeReadsBackDecode :=
  encodeSelector_decodeSelector

/-- Settles O3: the row with the decoded mnemonic matches the selector, and only one row does. -/
theorem selectorMapPicksTheTableRow : Obligations.SelectorMapPicksTheTableRow := by
  intro sel
  exact ⟨mnemonic_decodeSelector_iff (by decide) sel, mnemonic_decodeSelector_iff (by decide) sel,
    mnemonic_decodeSelector_iff (by decide) sel, mnemonic_decodeSelector_iff_eq (by decide) sel,
    mnemonic_decodeSelector_iff_eq (by decide) sel, mnemonic_decodeSelector_iff_eq (by decide) sel,
    mnemonic_decodeSelector_iff_eq (by decide) sel, mnemonic_decodeSelector_iff_eq (by decide) sel,
    mnemonic_decodeSelector_iff_eq (by decide) sel, mnemonic_decodeSelector_iff_eq (by decide) sel,
    mnemonic_decodeSelector_iff_eq (by decide) sel, mnemonic_decodeSelector_iff_eq (by decide) sel,
    mnemonic_decodeSelector_iff_eq (by decide) sel, mnemonic_decodeSelector_iff (by decide) sel,
    mnemonic_decodeSelector_iff (by decide) sel, length_filter_hits sel⟩

/-- Settles O4: each written word is the encoding of its instruction, and bit 7 of the byte is tested before the rows. -/
theorem writtenWordsDecode : Obligations.WrittenWordsDecode :=
  ⟨decodeSelector_encodeSelector (.reset true true 0b1111#4), decodeSelector_encodeSelector (.faultPreempt true 0b0001#4),
    decodeSelector_encodeSelector (.globalTimeout 0b0001#4), decodeSelector_encodeSelector .phWaitHighAgain,
    decodeSelector_encodeSelector .phSeqBatteryOnly, decodeSelector_encodeSelector .phTimeoutIndicate,
    decodeSelector_encodeSelector (.rsvPhaseAB true), decodeSelector_encodeSelector (.rsvPhaseCF 0b10#2), rfl⟩

/-- Settles O7: the channels are the three byte slices of the word that joins them. -/
theorem colorChannelsRoundTrip : Obligations.ColorChannelsRoundTrip :=
  ⟨fun r g b => ⟨redOf_packColor r g b, greenOf_packColor r g b, blueOf_packColor r g b, toNat_packColor r g b⟩,
    packColor_channels⟩

end

section
/-! SUPPORT. The selector a slot assembles and the row it fetches (R51, R52, R54). -/

namespace Sys2Proof.Machine

@[simp] theorem selR_selector (s : State) (c : SlotId) : selR (selector s c) = s.inp.reset := selR_pack ..

@[simp] theorem selF_selector (s : State) (c : SlotId) : selF (selector s c) = faulted s c := selF_pack ..

@[simp] theorem selT_selector (s : State) (c : SlotId) : selT (selector s c) = timeoutCond s c := selT_pack ..

@[simp] theorem selP_selector (s : State) (c : SlotId) : selP (selector s c) = (s.slot c).phase := selP_pack ..

/-- The timeout condition is never raised beside the code of `WAIT_LOW` (R52). -/
theorem timeoutBitFits_timeoutCond (s : State) (c : SlotId) :
    timeoutBitFits (timeoutCond s c) (s.slot c).phase = true := by
  by_cases h : (s.slot c).phase = Phase.waitLow.code
  · rw [timeoutCond_waitLow h]; rfl
  · simp only [timeoutBitFits, Bool.or_eq_true, bne_iff_ne]
    exact .inr h

theorem decodePhaseRow_wf (p : PhaseCode) : (decodePhaseRow p).wf = true := by
  revert p; decide

/-- A slot's instruction is well formed (R54 b). -/
theorem fetch_wf (s : State) (c : SlotId) : (fetch s c).wf = true := by
  have hfits := timeoutBitFits_timeoutCond s c
  rw [fetch_eq]
  split_ifs with hr hf ht
  · exact hfits
  · exact hfits
  · rwa [ht] at hfits
  · exact decodePhaseRow_wf _

end Sys2Proof.Machine
end

section

open Sys2Proof Sys2Proof.Machine

/-- Settles O5: the selector is packed from the reset sample, the fault signal, the timeout condition and the phase code. -/
theorem selectorIsAssembledFromStateAndSamples : Obligations.SelectorIsAssembledFromStateAndSamples := by
  intro s c
  have hr : selR (selector s c) = true ↔ s.inp.reset = true := by rw [selR_selector]
  have hf := faulted_eq_true s c
  have ht := timeoutCond_eq_true s c
  rw [← selF_selector] at hf
  rw [← selT_selector] at ht
  exact ⟨hr, hf, ht, selP_selector s c⟩

/-- Settles O6: the only rows that keep a T bit get it from the timeout condition, which is false in `WAIT_LOW`. -/
theorem fetchedInstructionIsWellFormed : Obligations.FetchedInstructionIsWellFormed :=
  fetch_wf

end

section
/-! SUPPORT. The host's placement of a selector word: what the placed slots fetch and that the step answers (log entries 6
and 8). -/

namespace Sys2Proof.Machine

/-- Every row answers a next state, in every state. -/
theorem exec_eq_next (i : Instr) (s : State) : ∃ t, exec i s = .next t := by
  obtain ⟨_, _, _, -, h⟩ | ⟨-, v, h⟩ | ⟨-, h⟩ := exec_cases i s <;> exact ⟨_, h⟩

/-- A moment whose clock breaks no contract is served: the step answers a next state (R60, R125, R130). -/
theorem momentStep_eq_next {m : Moment} {s : State} (h : clockRefusal m.now s = none) :
    ∃ t, momentStep m s = .next t := by
  unfold momentStep
  split_ifs with hreset htick
  · exact ⟨_, (resetEvent_eq_next hreset).mpr ⟨(clockRefusal_eq_none.mp h).1, rfl⟩⟩
  · obtain ⟨a, ha⟩ := exec_eq_next (fetch (s.sample m) .slot0) ((s.sample m).atSlot .slot0)
    obtain ⟨b, hb⟩ := exec_eq_next (fetch a .slot1) (a.atSlot .slot1)
    exact ⟨_, tickEvent_eq_next.mpr ⟨h, a, b, ha, hb, rfl⟩⟩
  · exact ⟨_, rfl⟩

/-! ### The placed selector -/

/-- The moment that placing `sel` puts in front of the queue: R as the event, F on both fault lines. -/
def placedMoment (sel : Selector) (now : Nat) : Moment :=
  let lines : PinLevels := { presenceN := .high, faultN := if selF sel then .low else .high }
  { reset := selR sel, tick := !selR sel, now := now, pins0 := lines, pins1 := lines }

theorem placeSelector_queue (s : State) (sel : Selector) :
    (placeSelector s sel).queue = .moment (placedMoment sel s.lastNow) :: s.queue := rfl

theorem placeSelector_slot (s : State) (sel : Selector) (c : SlotId) :
    (placeSelector s sel).slot c = placeSlot sel (clockWord s.lastNow) (s.slot c) := by cases c <;> rfl

/-- The samples of the step that serves a placed selector. -/
def placedSample (s : State) (sel : Selector) : State :=
  State.sample { placeSelector s sel with queue := s.queue } (placedMoment sel s.lastNow)

theorem placedSample_slot (s : State) (sel : Selector) (c : SlotId) :
    (placedSample s sel).slot c = placeSlot sel (clockWord s.lastNow) (s.slot c) := by
  rw [placedSample, State.sample_slot, State.withQueue_slot, placeSelector_slot]

theorem placedSample_faulted (s : State) (sel : Selector) (c : SlotId) :
    faulted (placedSample s sel) c = selF sel := by
  have hline : (placedSample s sel).faultLine c = if selF sel then .low else .high := by cases c <;> rfl
  rw [faulted, hline]
  cases selF sel <;> rfl

/-- A slot with T set was entered 5000 ms ago in a phase other than `WAIT_LOW`; one with T clear is entered now. -/
theorem placedSample_timeoutCond (s : State) (sel : Selector) (c : SlotId) :
    timeoutCond (placedSample s sel) c = selT sel := by
  have hnow : (placedSample s sel).inp.now = clockWord s.lastNow := rfl
  cases ht : selT sel with
  | false =>
    rw [timeoutCond_eq_false, elapsed_eq, hnow, placedSample_slot]
    simp [placeSlot, ht]
  | true =>
    rw [timeoutCond_eq_true, elapsed_eq, hnow, placedSample_slot]
    constructor
    · by_cases hp : selP sel = Phase.waitLow.code
      · simp [placeSlot, placedPhase, ht, hp, Phase.code]
      · simp [placeSlot, placedPhase, ht, hp]
    · simp [placeSlot, ht, timeSub, Config.globalTimeout]

/-- A placed selector is fetched by both slots as the row it decodes to. Only a don't-care bit may differ: the phase code of
a timeout in `WAIT_LOW`. -/
theorem fetch_placedSample_mnemonic (s : State) (sel : Selector) (c : SlotId) :
    (fetch (placedSample s sel) c).mnemonic = (decodeSelector sel).mnemonic := by
  have hreset : (placedSample s sel).inp.reset = selR sel := rfl
  rw [fetch_eq, hreset, placedSample_faulted, placedSample_timeoutCond, placedSample_slot]
  unfold decodeSelector
  split_ifs with hr hf ht
  · rfl
  · rfl
  · rfl
  · simp [placeSlot, placedPhase, ht]

/-- The step that serves a placed selector answers: its clock is the last sample's, and no tick stands before it. -/
theorem step_placeSelector_eq_next (s : State) (sel : Selector) : ∃ t, step (placeSelector s sel) = .next t := by
  have hclock : clockRefusal (placedMoment sel s.lastNow).now { placeSelector s sel with queue := s.queue } = none :=
    clockRefusal_eq_none.mpr ⟨le_rfl, rfl⟩
  simpa only [step, eventStep, placeSelector_queue] using momentStep_eq_next hclock

/-- The placement takes the low seven bits of the word, and cutting it to eight first leaves them. -/
theorem withFetchWord_eight (s : State) (w : Nat) : s.withFetchWord 8 w = placeSelector s (BitVec.ofNat 7 w) := by
  have hcut : BitVec.ofNat 7 (w % 2 ^ 8) = BitVec.ofNat 7 w := by
    apply BitVec.eq_of_toNat_eq
    simp only [BitVec.toNat_ofNat]
    omega
  rw [State.withFetchWord, hcut]

end Sys2Proof.Machine
end

section

open Sys2Proof Sys2Proof.Machine

/-- Settles O59: the placed selector's step answers, and both slots assemble its R, F and T bits and its row. -/
theorem placedWordRunsNext : Obligations.PlacedWordRunsNext := by
  intro s w hw
  obtain ⟨t, ht⟩ := step_placeSelector_eq_next s (BitVec.ofNat 7 w)
  rw [withFetchWord_eight]
  exact ⟨_, t, _, decodeTableWord_eq_some hw, ht, placeSelector_queue s _, fetch_placedSample_mnemonic s _⟩

end

section
/-! SUPPORT. The stimulus lines: a clock word as the first true time at or after the last, the clock words of a REPEAT as an
arithmetic progression, and the ticks they lower to (R57, log entry 11). -/

namespace Sys2Proof.Machine

/-! ### The clock word of a line -/

theorem clockWord_add (t k : Nat) : clockWord (t + k) = clockWord t + BitVec.ofNat 32 k := BitVec.ofNat_add t k

theorem le_unwrap (last : Nat) (w : Time) : last ≤ unwrap last w := Nat.le_add_right ..

theorem unwrap_lt (last : Nat) (w : Time) : unwrap last w < last + 2 ^ 32 :=
  Nat.add_lt_add_left (BitVec.isLt _) last

@[simp] theorem clockWord_unwrap (last : Nat) (w : Time) : clockWord (unwrap last w) = w := by
  rw [unwrap, clockWord_add, BitVec.ofNat_toNat, BitVec.setWidth_eq, timeSub, BitVec.add_comm,
    BitVec.sub_add_cancel]

/-- The clock word that is `k` above the last one, and less than a wrap above it, stands for the time `k` later. -/
theorem unwrap_clockWord_add (t : Nat) {k : Nat} (hk : k < 2 ^ 32) :
    unwrap t (clockWord t + BitVec.ofNat 32 k) = t + k := by
  rw [unwrap, timeSub, BitVec.add_comm, BitVec.add_sub_cancel, BitVec.toNat_ofNat, Nat.mod_eq_of_lt hk]

/-! ### The clock words of a REPEAT -/

theorem repeatTimes_eq_nil {t0 t1 d : Nat} (h : d = 0 ∨ t1 < t0) : repeatTimes t0 t1 d = [] := by
  simp [repeatTimes, h]

/-- The clock words of a REPEAT are the arithmetic progression from `t0` with step `d`. -/
theorem repeatTimes_eq_range' {t0 t1 d : Nat} (hd : 0 < d) (h : t0 ≤ t1) :
    repeatTimes t0 t1 d = List.range' t0 ((t1 - t0) / d + 1) d := by
  have hsome : ¬ (d = 0 ∨ t1 < t0) := by omega
  simp only [repeatTimes, Bool.or_eq_true, decide_eq_true_eq, hsome, if_false]
  exact List.ext_getElem (by simp) fun k _ _ => by simp [Nat.mul_comm]

/-- A clock word is in a REPEAT exactly when it is a `t0 + k*d` that is at most `t1` (R57). -/
theorem mem_repeatTimes {t0 t1 d x : Nat} (hd : 0 < d) :
    x ∈ repeatTimes t0 t1 d ↔ ∃ k, x = t0 + k * d ∧ x ≤ t1 := by
  by_cases h : t1 < t0
  · rw [repeatTimes_eq_nil (.inr h)]
    simp only [List.not_mem_nil, false_iff]
    rintro ⟨k, rfl, hle⟩
    omega
  · have hle : t0 ≤ t1 := Nat.not_lt.mp h
    rw [repeatTimes_eq_range' hd hle, List.mem_range']
    refine exists_congr fun k => ?_
    rw [Nat.lt_succ_iff, Nat.le_div_iff_mul_le hd, Nat.mul_comm d k]
    constructor <;> rintro ⟨h1, h2⟩ <;> constructor <;> omega

theorem le_of_mem_repeatTimes {t0 t1 d x : Nat} (hx : x ∈ repeatTimes t0 t1 d) : t0 ≤ x := by
  have hd : 0 < d := Nat.pos_of_ne_zero fun hd => by simp [repeatTimes_eq_nil (.inl hd)] at hx
  obtain ⟨k, rfl, -⟩ := (mem_repeatTimes hd).mp hx
  exact Nat.le_add_right ..

theorem pairwise_repeatTimes (t0 t1 d : Nat) : (repeatTimes t0 t1 d).Pairwise (· < ·) := by
  by_cases h : d = 0 ∨ t1 < t0
  · rw [repeatTimes_eq_nil h]
    exact .nil
  · rw [not_or, Nat.not_lt] at h
    obtain ⟨hd, hle⟩ := h
    rw [repeatTimes_eq_range' (Nat.pos_of_ne_zero hd) hle]
    exact List.pairwise_lt_range' d (Nat.pos_of_ne_zero hd)

/-! ### The ticks of a list of clock words -/

/-- A TICK line lowers to one tick moment. -/
theorem lineEvents_tick (last : Nat) (w : Time) (l : LineLevels) :
    lineEvents last (.tick w l) = ([.moment (lineMoment false (unwrap last w) l)], unwrap last w) := by
  simp [lineEvents]

/-- The ticks of a list of clock words are what a TICK line for each lowers to. -/
theorem tickEvents_eq_programEvents (l : LineLevels) (ws : List Nat) (last : Nat) :
    (tickEvents l last ws).1 = programEvents last (ws.map fun w => .tick (BitVec.ofNat 32 w) l) := by
  induction ws generalizing last with
  | nil => rfl
  | cons w ws ih =>
    rw [tickEvents_cons, List.map_cons, programEvents_cons, lineEvents_tick, ih, List.singleton_append]

/-- The ticks of a progression that does not wrap come `d` apart in true time, as their clock words do. -/
theorem tickEvents_range' (l : LineLevels) {d : Nat} (n : Nat) {t w : Nat} (hw : clockWord t = BitVec.ofNat 32 w)
    (hfit : w + n * d < 2 ^ 32) :
    tickEvents l t (List.range' (w + d) n d) =
      ((List.range' (w + d) n d).map fun x => .moment (lineMoment false (t + (x - w)) l), t + n * d) := by
  induction n generalizing t w with
  | zero => simp
  | succ n ih =>
    rw [Nat.succ_mul] at hfit ⊢
    have hnext : unwrap t (BitVec.ofNat 32 (w + d)) = t + d := by
      rw [BitVec.ofNat_add, ← hw, unwrap_clockWord_add t (by omega)]
    have hclock : clockWord (t + d) = BitVec.ofNat 32 (w + d) := by
      rw [clockWord_add, hw, BitVec.ofNat_add]
    have hticks : (List.range' (w + d + d) n d).map (fun x => Event.moment (lineMoment false (t + d + (x - (w + d))) l)) =
        (List.range' (w + d + d) n d).map fun x => .moment (lineMoment false (t + (x - w)) l) := by
      refine List.map_congr_left fun x hx => ?_
      obtain ⟨k, -, rfl⟩ := List.mem_range'.mp hx
      rw [show t + d + (w + d + d + d * k - (w + d)) = t + (w + d + d + d * k - w) by omega]
    have hend : t + d + n * d = t + (n * d + d) := by omega
    rw [List.range'_succ, tickEvents_cons, hnext, ih hclock (by omega), hticks, hend, List.map_cons,
      Nat.add_sub_cancel_left]

/-- The ticks of a REPEAT line come at the first true time of `t0` and as much later as their clock words are above `t0`. -/
theorem tickEvents_repeatTimes (l : LineLevels) (last : Nat) (t0 t1 : Time) {d : Nat} (hd : 0 < d)
    (h : t0.toNat ≤ t1.toNat) :
    tickEvents l last (repeatTimes t0.toNat t1.toNat d) =
      ((repeatTimes t0.toNat t1.toNat d).map fun x =>
        .moment (lineMoment false (unwrap last t0 + (x - t0.toNat)) l),
       unwrap last t0 + (t1.toNat - t0.toNat) / d * d) := by
  have hclock : clockWord (unwrap last t0) = BitVec.ofNat 32 t0.toNat := by simp
  have hfit : t0.toNat + (t1.toNat - t0.toNat) / d * d < 2 ^ 32 := by
    have hlast := Nat.div_mul_le_self (t1.toNat - t0.toNat) d
    omega
  rw [repeatTimes_eq_range' hd h, List.range'_succ, tickEvents_cons, BitVec.ofNat_toNat, BitVec.setWidth_eq,
    tickEvents_range' l _ hclock hfit, List.map_cons, Nat.sub_self, Nat.add_zero]

/-- The true time of a REPEAT's tick shows its clock word. -/
theorem clockWord_repeatTick (last : Nat) (t0 t1 : Time) {d w : Nat} (hw : w ∈ repeatTimes t0.toNat t1.toNat d) :
    clockWord (unwrap last t0 + (w - t0.toNat)) = BitVec.ofNat 32 w := by
  have hsum : w = t0.toNat + (w - t0.toNat) := (Nat.add_sub_of_le (le_of_mem_repeatTimes hw)).symm
  conv_rhs => rw [hsum, BitVec.ofNat_add, BitVec.ofNat_toNat, BitVec.setWidth_eq]
  rw [clockWord_add, clockWord_unwrap]

/-- A REPEAT with step 0, or whose end is below its start, is no tick (log entry 11). -/
theorem lineEvents_repeatTick_of_empty (last : Nat) {t0 t1 : Time} {d : Nat} (l : LineLevels)
    (h : d = 0 ∨ t1.toNat < t0.toNat) : lineEvents last (.repeatTick t0 t1 d l) = ([], last) := by
  rw [lineEvents, repeatTimes_eq_nil h, tickEvents_nil]

end Sys2Proof.Machine
end

section

open Sys2Proof Sys2Proof.Machine

/-- Settles O60: a RESET and a TICK line stand for one moment; the clock words of a REPEAT are a progression, whose ticks are
as far apart in true time as the words. -/
theorem stimulusLinesLowerAsWritten : Obligations.StimulusLinesLowerAsWritten := by
  refine ⟨fun last w => ⟨le_unwrap last w, clockWord_unwrap last w, unwrap_lt last w⟩, fun _ _ => rfl, lineEvents_tick,
    fun last t0 t1 d l hd h => ⟨tickEvents_repeatTimes l last t0 t1 hd h, fun _ => clockWord_repeatTick last t0 t1⟩,
    fun last t0 t1 d l => ⟨tickEvents_eq_programEvents l _ last, lineEvents_repeatTick_of_empty last l⟩,
    fun _ _ _ _ => mem_repeatTimes, pairwise_repeatTimes, fun _ _ => rfl⟩

end

section
/-! SUPPORT. The tick: the timer in true time (R10, R62), the two overrides (R63, R64), the outside world's fields across a
slot's step (R60), and a slot that no override takes. -/

namespace Sys2Proof

/-- Two phases do not share a code (R21). -/
theorem Phase.code_injective : Function.Injective Phase.code := fun p q h => by
  simpa using congrArg Phase.ofCode h

end Sys2Proof

namespace Sys2Proof.Machine

open Sys2Proof.Safety

/-! ### The timer (R10, R62) -/

/-- Clock words of two true times differ by the clock word of the time between them, also across a wrap. -/
theorem clockWord_sub {te t : Nat} (h : te ≤ t) : clockWord t - clockWord te = clockWord (t - te) := by
  have hsum : clockWord t = clockWord (t - te) + clockWord te := by
    rw [← Nat.sub_add_cancel h, Nat.add_sub_cancel]
    exact clockWord_add _ _
  rw [hsum, BitVec.add_sub_cancel]

theorem toNat_clockWord {t : Nat} (h : t < 2 ^ 32) : (clockWord t).toNat = t := by
  rw [clockWord, BitVec.toNat_ofNat, Nat.mod_eq_of_lt h]

/-! ### The overrides (R63, R64) -/

theorem takeError_fault (s : State) :
    takeError .fault s =
      s.setSlot s.cur
        { phase := 0b1000#4, entered := s.inp.now, batEn := false, busEn := false
          color0 := flash s.cfg s.inp.now, color1 := flash s.cfg s.inp.now } := rfl

theorem takeError_timeout (s : State) :
    takeError .timeout s =
      s.setSlot s.cur
        { phase := 0b1001#4, entered := s.inp.now, batEn := false, busEn := false
          color0 := flash s.cfg s.inp.now, color1 := 0x000000#24 } := rfl

theorem exec_faultPreempt (t : Bool) (p : PhaseCode) (s : State) :
    exec (.faultPreempt t p) s = .next (takeError .fault s) := rfl

theorem exec_globalTimeout (p : PhaseCode) (s : State) :
    exec (.globalTimeout p) s = .next (takeError .timeout s) := rfl

theorem fetch_of_fault {s : State} {c : SlotId} (hr : s.inp.reset = false) (hf : s.faultLine c = .low) :
    fetch s c = .faultPreempt (timeoutCond s c) (s.slot c).phase := by
  rw [fetch_eq, hr, (faulted_eq_true s c).mpr hf, if_neg Bool.false_ne_true, if_pos rfl]

theorem decodePhaseRow_ne_globalTimeout (p q : PhaseCode) : decodePhaseRow p ≠ .globalTimeout q := by
  revert p q; decide

/-- Without the reset event, GLOBAL_TIMEOUT is the row fetched on the timeout condition with the fault line high, and on
nothing else (R53, R114). -/
theorem fetch_eq_globalTimeout_iff {s : State} {c : SlotId} (hr : s.inp.reset = false) :
    (∃ p, fetch s c = .globalTimeout p) ↔ s.faultLine c = .high ∧ timeoutCond s c = true := by
  rw [fetch_eq, hr, if_neg Bool.false_ne_true, ← faulted_eq_false]
  cases faulted s c with
  | true => simp
  | false =>
    cases timeoutCond s c with
    | true => simp
    | false => simp [decodePhaseRow_ne_globalTimeout]

/-! ### The step's instruction and what it leaves (R53, R60) -/

/-- The decoder reads the row that the slot fetches from the selector's byte. -/
theorem decode_selector_iff {s : State} {c : SlotId} {i : Instr} :
    decode [0b0#1 ++ selector s c] = .ok (i, []) ↔ fetch s c = i := by
  rw [decode_selectorByte, fetch]
  simp

/-- No row reaches the sink, the event queue or the records of the clock. -/
theorem exec_world {i : Instr} {s a : State} (h : exec i s = .next a) :
    a.sink = s.sink ∧ a.queue = s.queue ∧ a.lastNow = s.lastNow ∧ a.lastTick = s.lastTick := by
  obtain ⟨_, _, _, -, hreset⟩ | ⟨-, v, hv⟩ | ⟨-, hmark⟩ := exec_cases i s
  · cases hreset.symm.trans h; simp
  · cases hv.symm.trans h; simp
  · cases hmark.symm.trans h; simp

/-- No slot's step reaches the sink, the event queue or the records of the clock. -/
theorem slotStep_world {s a : State} {c : SlotId} (h : slotStep c s = .next a) :
    a.sink = s.sink ∧ a.queue = s.queue ∧ a.lastNow = s.lastNow ∧ a.lastTick = s.lastTick :=
  exec_world (s := s.atSlot c) h

/-! ### No override (R61, R64) -/

/-- Phase logic never enters `TIMEOUT_INDICATE`: only the override does (R64). -/
theorem successor_ne_timeoutIndicate (p : Phase) : successor p ≠ .timeoutIndicate := by cases p <;> decide

/-- A slot outside `TIMEOUT_INDICATE` that neither override takes stays outside it, reserved codes included. -/
theorem slotStep_phase_ne_timeoutIndicate {s a : State} {c : SlotId} (hr : s.inp.reset = false)
    (hf : s.faultLine c = .high) (ht : timeoutCond s c = false)
    (hp : (s.slot c).phase ≠ Phase.timeoutIndicate.code) (h : slotStep c s = .next a) :
    (a.slot c).phase ≠ Phase.timeoutIndicate.code := by
  rw [slotStep_of_no_override hr hf ht] at h
  cases hcode : Phase.ofCode (s.slot c).phase with
  | none =>
    rw [exec_decodePhaseRow_reserved ((Phase.ofCode_none_iff _).mp hcode)] at h
    cases h
    simpa using hp
  | some p =>
    have hown : (s.slot c).phase = p.code := Phase.code_of_ofCode hcode
    obtain ⟨next, hrun, hnext⟩ := exec_decodePhaseRow_code p (s.atSlot c)
    rw [hown, hrun] at h
    cases h
    rw [runPhase_atSlot_slot hown]
    obtain ⟨-, rfl⟩ | ⟨-, rfl⟩ := hnext
    · exact Phase.code_injective.ne (successor_ne_timeoutIndicate p)
    · exact hown ▸ hp

end Sys2Proof.Machine
end

section

open Sys2Proof Sys2Proof.Machine Sys2Proof.Safety

/-- Settles O9: subtraction of words is modular, and the words of two true times differ by the word of their difference. -/
theorem elapsedIsTrueTimeAcrossAWrap : Obligations.ElapsedIsTrueTimeAcrossAWrap := by
  intro s c te t
  rw [elapsed_eq]
  refine ⟨?_, fun hnow hentered hle hlt => ?_⟩
  · rw [BitVec.toNat_sub, Nat.add_comm]
  · rw [hnow, hentered, clockWord_sub hle, toNat_clockWord hlt]

/-- Settles O16: GLOBAL_TIMEOUT is fetched on the timeout condition with no fault, and takes the Timeout class. -/
theorem globalTimeoutEntersTimeoutIndicate : Obligations.GlobalTimeoutEntersTimeoutIndicate := by
  refine ⟨fun s c hr => ?_, fun s p => ?_⟩
  · rw [fetch_eq_globalTimeout_iff hr, timeoutCond_eq_true]
    rfl
  · rw [exec_globalTimeout, takeError_timeout, flash_eq]

/-- Settles O37: the tick ends by handing over the frame of the slots it leaves, and neither slot's step reached the sink,
the queue or the records. -/
theorem tickWritesAndDisplaysOneFrame : Obligations.TickWritesAndDisplaysOneFrame := by
  intro s t m rest hq hm h
  rw [step_plainTick hq hm] at h
  obtain ⟨-, a, b, ha, hb, rfl⟩ := tickEvent_eq_next.mp h
  obtain ⟨hsinkA, hqueueA, hnowA, htickA⟩ := slotStep_world ha
  obtain ⟨hsinkB, hqueueB, hnowB, htickB⟩ := slotStep_world hb
  refine ⟨rfl, rfl, ?_, ?_, ?_, ?_⟩
  · rw [handFrame_strobes, hsinkB, hsinkA, State.sample_sink]
  · rw [handFrame_queue, hqueueB, hqueueA, State.sample_queue]
  · rw [handFrame_lastNow, hnowB, hnowA, State.sample_lastNow]
  · rw [handFrame_lastTick, htickB, htickA, State.sample_lastTick, (plainTick_eq_true.mp hm).2, if_neg Bool.false_ne_true]

/-- Settles O40: with no fault, the slot's own step takes the Timeout class on the timeout condition, and without it stays
outside `TIMEOUT_INDICATE`. -/
theorem timeoutFiresAtFiveSecondsAndNotBefore : Obligations.TimeoutFiresAtFiveSecondsAndNotBefore := by
  intro s t m rest c hq hm h hline
  obtain ⟨a, ha, hta⟩ := slot_after_plainTick hq hm h c
  have hr : (State.sample { s with queue := rest } m).inp.reset = false := (plainTick_eq_true.mp hm).2
  have hf : (State.sample { s with queue := rest } m).faultLine c = .high := by simpa using hline
  rw [hta]
  refine ⟨fun hphase hel => ?_, fun hphase hno => ?_⟩
  · have ht : timeoutCond (State.sample { s with queue := rest } m) c = true := by
      rw [timeoutCond_eq_true, elapsed_sample, State.sample_slot, State.withQueue_slot]
      exact ⟨hphase, hel⟩
    cases (slotStep_of_timeout hr hf ht).symm.trans ha
    rw [takeError_timeout, State.atSlot_cur, State.slot_setSlot_same]
    rfl
  · have ht : timeoutCond (State.sample { s with queue := rest } m) c = false := by
      rw [timeoutCond_eq_false, elapsed_sample, State.sample_slot, State.withQueue_slot]
      exact hno
    have hout : ((State.sample { s with queue := rest } m).slot c).phase ≠ Phase.timeoutIndicate.code := by
      rw [State.sample_slot, State.withQueue_slot]
      exact hphase
    exact slotStep_phase_ne_timeoutIndicate hr hf ht hout ha

/-- Settles O10: ENTER is that record update, by definition. -/
theorem enterSetsPhaseAndTimerOnly : Obligations.EnterSetsPhaseAndTimerOnly :=
  fun _ _ _ => rfl

/-- Settles O15: FAULT_PREEMPT comes before every row but RESET, and takes the Fault class. -/
theorem faultPreemptEntersFaultIndicate : Obligations.FaultPreemptEntersFaultIndicate := by
  refine ⟨fun s c hr hf => ⟨_, _, fetch_of_fault hr hf⟩, fun s tb p => ?_⟩
  rw [exec_faultPreempt, takeError_fault, flash_eq]

/-- Settles O32: the decoded rows are the ones the slots fetch, so the two execs are the two slot steps of the TICK. -/
theorem tickStepRunsTheDecodedInstructions : Obligations.TickStepRunsTheDecodedInstructions := by
  intro s a b m rest i0 i1 hq htick hreset hclock hdec0 hexec0 hdec1 hexec1
  have ha : slotStep .slot0 (State.sample { s with queue := rest } m) = .next a := by
    rw [slotStep, decode_selector_iff.mp hdec0, hexec0]
  have hb : slotStep .slot1 a = .next b := by
    rw [slotStep, decode_selector_iff.mp hdec1, hexec1]
  rw [step_plainTick hq (plainTick_eq_true.mpr ⟨htick, hreset⟩)]
  exact tickEvent_eq_next.mpr ⟨hclock, a, b, ha, hb, rfl⟩

end

section
/-! SUPPORT. The presence phases (R70 to R73): the row fetched with no override, the slot a presence phase leaves, and the
levels a slot still has to sample on its way to `SEQ_BOTH_1` (R74). -/

namespace Sys2Proof.Machine

open Sys2Proof.Safety

/-! ### The rows -/

/-- With no reset and neither override, a slot that holds a named phase fetches that phase's row (R61). -/
theorem fetch_of_no_override {s : State} {c : SlotId} {p : Phase} (hr : s.inp.reset = false)
    (hf : (s.inp.pins c).faultN = .high) (hp : (s.slot c).phase = p.code)
    (h : p = .waitLow ∨ (s.inp.now - (s.slot c).entered).toNat < 5000) : fetch s c = decodePhaseRow p.code := by
  have hfault : faulted s c = false := (faulted_eq_false s c).mpr hf
  have htimeout : timeoutCond s c = false :=
    (timeoutCond_eq_false s c).mpr (h.imp_left fun hwait => hp.trans (congrArg _ hwait))
  rw [fetch_eq, hr, hfault, htimeout, hp]
  rfl

/-- The slot that a presence phase leaves: it enters its target exactly when the line reads the level it waits for, and
writes its own output row either way. -/
theorem runPhase_whenPresence (q p : Phase) (l : Level) (s : State) :
    runPhase q (whenPresence l p s) s =
      s.setSlot s.cur
        { phase := if (s.inp.pins s.cur).presenceN = l then p.code else (s.slot s.cur).phase
          entered := if (s.inp.pins s.cur).presenceN = l then s.inp.now else (s.slot s.cur).entered
          batEn := (out s.cfg q s.inp.now).bat, busEn := (out s.cfg q s.inp.now).bus
          color0 := (out s.cfg q s.inp.now).c0, color1 := (out s.cfg q s.inp.now).c1 } := by
  by_cases h : (s.inp.pins s.cur).presenceN = l <;>
    simp [runPhase, whenPresence, State.presence, State.curSlot, writeOut, enter, h]

/-! ### The debounce (R74) -/

/-- The levels that a slot in phase `p` has to sample, in this order, before it can be in `SEQ_BOTH_1`. -/
def awaitedLevels : Phase → List Level
  | .seqBoth1     => []
  | .waitLowAgain => [.low]
  | .waitHigh     => [.high, .low]
  | _             => [.low, .high, .low]

/-- No phase awaits more than the whole debounce. -/
theorem awaitedLevels_sublist_full (p : Phase) : (awaitedLevels p).Sublist [.low, .high, .low] := by
  cases p <;> decide

/-- A phase that moves on by its own transition awaits at most the level that tick sampled, and then what its successor
awaits: of the levels awaited only the first is spent. -/
theorem awaitedLevels_sublist_successor {p : Phase} {presence : Level} {el : Nat} (h : due p presence el) :
    (awaitedLevels p).Sublist (presence :: awaitedLevels (successor p)) := by
  cases p with
  | waitLow | waitHigh | waitLowAgain => cases h; exact .refl _
  | seqBoth1 => exact List.nil_sublist _
  | seqBatteryOnly | seqBoth2 | seqBusOnly => exact List.sublist_cons_self ..
  | waitHighAgain | faultIndicate | timeoutIndicate => exact List.sublist_cons_self ..

/-- One tick spends at most the level it sampled; an error class puts the slot back to the whole debounce. -/
theorem awaitedLevels_sublist_of_transition {p q : Phase} {el : Nat} {presence fault : Level} {next : Option Phase}
    (h : Transition p el presence fault q next) :
    (awaitedLevels p).Sublist (presence :: awaitedLevels (next.getD p)) := by
  obtain ⟨-, -, rfl⟩ | ⟨-, -, -, -, rfl⟩ | ⟨-, -, -, ⟨hdue, rfl⟩ | ⟨-, rfl⟩⟩ := h
  · exact (awaitedLevels_sublist_full p).cons _
  · exact (awaitedLevels_sublist_full p).cons _
  · exact awaitedLevels_sublist_successor hdue
  · exact List.sublist_cons_self ..

@[simp] theorem tickLevels_moment (c : SlotId) (m : Moment) :
    tickLevels c [.moment m] = if plainTick m then [(m.pins c).presenceN] else [] := rfl

theorem tickLevels_append (c : SlotId) (es es' : List Event) :
    tickLevels c (es ++ es') = tickLevels c es ++ tickLevels c es' := by
  induction es with
  | nil => rfl
  | cons e es ih =>
    cases e with
    | moment m => by_cases hm : plainTick m = true <;> simp [tickLevels, hm, ih]
    | portFailure | consoleWrite => exact ih

/-- A step takes the event it serves off the queue and leaves the rest. -/
theorem step_queue {s t : State} (h : step s = .next t) : t.queue = s.queue.drop 1 := by
  obtain ⟨hq, rfl⟩ | ⟨m, rest, hq, ⟨-, rfl⟩ | ⟨hm, -⟩ | ⟨-, -, rfl⟩⟩ := step_cases h
  · rw [hq]; rfl
  · rw [hq]; rfl
  · obtain ⟨-, -, -, hqueue, -⟩ := tickWritesAndDisplaysOneFrame s t m rest hq hm h
    rw [hq, hqueue]; rfl
  · rw [hq]; rfl

/-- One step of the block keeps a slot in a named phase, and what it awaited is covered by the levels the step's event
sampled and what it awaits now. -/
theorem step_awaitedLevels {s t : State} {c : SlotId} {p : Phase} (hp : (s.slot c).phase = p.code)
    (h : step s = .next t) :
    ∃ p' : Phase, (t.slot c).phase = p'.code ∧
      (awaitedLevels p).Sublist (tickLevels c (s.queue.take 1) ++ awaitedLevels p') := by
  obtain ⟨-, rfl⟩ | ⟨m, rest, hq, ⟨-, rfl⟩ | ⟨hm, -⟩ | ⟨-, -, rfl⟩⟩ := step_cases h
  · exact ⟨p, hp, List.sublist_append_right ..⟩
  · exact ⟨.waitLow, by rw [resetBlock_slot]; rfl,
      (awaitedLevels_sublist_full p).trans (List.sublist_append_right ..)⟩
  · obtain ⟨q, next, htr, hslot⟩ := slotStepIsThePureTransition s t m rest c p hq hm h hp
    refine ⟨next.getD p, by rw [hslot], ?_⟩
    simpa [hq, hm] using awaitedLevels_sublist_of_transition htr
  · exact ⟨p, by simpa using hp, List.sublist_append_right ..⟩

/-- A run that leaves a slot in `SEQ_BOTH_1` sampled, in order, all the levels that the slot's first phase awaited. -/
theorem awaitedLevels_sublist_of_run {k : Nat} {s t : State} {c : SlotId} {p : Phase} (hp : (s.slot c).phase = p.code)
    (h : runFor k s = .next t) (ht : (t.slot c).phase = Phase.seqBoth1.code) :
    (awaitedLevels p).Sublist (tickLevels c (s.queue.take k)) := by
  induction k generalizing s p with
  | zero =>
    cases h
    cases Phase.code_injective (hp.symm.trans ht)
    exact List.nil_sublist _
  | succ k ih =>
    obtain ⟨u, hstep, hrun⟩ := runFor_succ_eq_next.mp h
    obtain ⟨p', hp', hspent⟩ := step_awaitedLevels hp hstep
    have hrest := ih hp' hrun
    rw [step_queue hstep] at hrest
    rw [Nat.add_comm, List.take_add, tickLevels_append]
    exact hspent.trans (hrest.append_left _)

end Sys2Proof.Machine
end

section

open Sys2Proof Sys2Proof.Machine

/-- Settles O56: `WAIT_LOW` awaits the whole debounce, each step spends at most the level it sampled, and `SEQ_BOTH_1` awaits
nothing; by induction on the run. -/
theorem debounceNeedsLowHighLow : Obligations.DebounceNeedsLowHighLow :=
  fun _ _ _ _ hs hrun ht => awaitedLevels_sublist_of_run (p := .waitLow) hs hrun ht

/-- Settles O17: `WAIT_LOW` has no timeout condition, and its row tests the presence line for low. -/
theorem waitLowWaitsForPresenceLow : Obligations.WaitLowWaitsForPresenceLow :=
  ⟨fun _ _ hr hf hp => fetch_of_no_override (p := .waitLow) hr hf hp (.inl rfl),
    fun s => congrArg _ (runPhase_whenPresence .waitLow .waitHigh .low s)⟩

/-- Settles O18: with no override `WAIT_HIGH` runs its own row, which tests the presence line for high. -/
theorem waitHighWaitsForPresenceHigh : Obligations.WaitHighWaitsForPresenceHigh :=
  ⟨fun _ _ hr hf hp hel => fetch_of_no_override (p := .waitHigh) hr hf hp (.inr hel),
    fun s => congrArg _ (runPhase_whenPresence .waitHigh .waitLowAgain .high s)⟩

/-- Settles O19: with no override `WAIT_LOW_AGAIN` runs its own row, which tests the presence line for low. -/
theorem waitLowAgainWaitsForPresenceLow : Obligations.WaitLowAgainWaitsForPresenceLow :=
  ⟨fun _ _ hr hf hp hel => fetch_of_no_override (p := .waitLowAgain) hr hf hp (.inr hel),
    fun s => congrArg _ (runPhase_whenPresence .waitLowAgain .seqBoth1 .low s)⟩

/-- Settles O20: with no override `WAIT_HIGH_AGAIN` runs its own row, which tests the presence line for high and no time. -/
theorem waitHighAgainWaitsForPresenceHigh : Obligations.WaitHighAgainWaitsForPresenceHigh :=
  ⟨fun _ _ hr hf hp hel => fetch_of_no_override (p := .waitHighAgain) hr hf hp (.inr hel),
    fun s => congrArg _ (runPhase_whenPresence .waitHighAgain .waitLow .high s)⟩

end

section
/-! SUPPORT. The rail-sequencing phases (R80 to R85): the slot a dwell phase leaves, the slot after a tick that neither
override took, and the rails along the walk. -/

namespace Sys2Proof.Machine

open Sys2Proof.Safety

/-- The slot that a dwell phase leaves: it enters its target exactly when the elapsed time has reached the dwell, and writes
its own output row either way. -/
theorem runPhase_whenDwell (q p : Phase) (d : Nat) (s : State) :
    runPhase q (whenDwell d p s) s =
      s.setSlot s.cur
        { phase := if d ≤ (s.inp.now - (s.slot s.cur).entered).toNat then p.code else (s.slot s.cur).phase
          entered := if d ≤ (s.inp.now - (s.slot s.cur).entered).toNat then s.inp.now else (s.slot s.cur).entered
          batEn := (out s.cfg q s.inp.now).bat, busEn := (out s.cfg q s.inp.now).bus
          color0 := (out s.cfg q s.inp.now).c0, color1 := (out s.cfg q s.inp.now).c1 } := by
  obtain ⟨h, hnext⟩ | ⟨h, hnext⟩ := whenDwell_fires d p s <;> rw [elapsed_eq] at h
  · simp only [hnext, if_pos h]
    rfl
  · simp only [hnext, if_neg h]
    rfl

/-- Below a wrap, the words of two true times differ by the true time between them (R62). -/
theorem toNat_clockWord_sub {te t : Nat} (hle : te ≤ t) (hlt : t - te < 2 ^ 32) :
    (clockWord t - clockWord te).toNat = t - te := by
  rw [clockWord_sub hle, toNat_clockWord hlt]

/-! ### The SEQ phases -/

/-- In a `SEQ_*` phase the transition waits for the dwell alone (R80 to R83). -/
theorem due_of_mem_seq {p : Phase} (hp : p ∈ [Phase.seqBoth1, .seqBatteryOnly, .seqBoth2, .seqBusOnly])
    (presence : Level) (el : Nat) : due p presence el ↔ 500 ≤ el := by
  simp only [List.mem_cons, List.not_mem_nil, or_false] at hp
  obtain rfl | rfl | rfl | rfl := hp <;> rfl

/-- Along the walk, the rails a slot can hold and the rails its phase writes each have one on, and they differ in at most
one (R84). -/
theorem railPairs_seq_overlap {p : Phase} (hp : p ∈ [Phase.seqBoth1, .seqBatteryOnly, .seqBoth2, .seqBusOnly])
    {bat bus : Bool} (h : (bat, bus) ∈ railPairs p) (cfg : Configuration) (t : Time) :
    (bat = true ∨ bus = true) ∧ ((out cfg p t).bat = true ∨ (out cfg p t).bus = true) ∧
      ((out cfg p t).bat = bat ∨ (out cfg p t).bus = bus) := by
  simp only [List.mem_cons, List.not_mem_nil, or_false] at hp
  obtain rfl | rfl | rfl | rfl := hp
  all_goals
    simp only [railPairs, List.mem_cons, List.not_mem_nil, or_false, Prod.mk.injEq] at h
    obtain ⟨rfl, rfl⟩ | ⟨rfl, rfl⟩ := h
    · simp [out]
    · simp [out]

/-! ### The slot after a tick that neither override took -/

section

variable {s t : State} {m : Moment} {rest : List Event} {c : SlotId} {p : Phase}
  (hq : s.queue = .moment m :: rest) (hm : plainTick m = true) (hstep : step s = .next t)
  (hp : (s.slot c).phase = p.code) (hf : (m.pins c).faultN = .high)
  (hel : p = .waitLow ∨ (clockWord m.now - (s.slot c).entered).toNat < 5000)
include hq hm hstep hp hf hel

/-- A tick that neither override takes writes the output row of the phase held, and moves to the successor exactly when
that is due (R61). -/
theorem slot_after_ownPhase :
    ∃ next : Option Phase,
      (due p (m.pins c).presenceN (clockWord m.now - (s.slot c).entered).toNat ∧ next = some (successor p) ∨
        ¬ due p (m.pins c).presenceN (clockWord m.now - (s.slot c).entered).toNat ∧ next = none) ∧
      t.slot c =
        { phase := (next.getD p).code
          entered := if next.isSome then clockWord m.now else (s.slot c).entered
          batEn := (out s.cfg p (clockWord m.now)).bat, busEn := (out s.cfg p (clockWord m.now)).bus
          color0 := (out s.cfg p (clockWord m.now)).c0, color1 := (out s.cfg p (clockWord m.now)).c1 } := by
  obtain ⟨q, next, htr, hslot⟩ := slotStepIsThePureTransition s t m rest c p hq hm hstep hp
  rw [hf] at htr
  obtain ⟨rfl, hnext⟩ := (transition_of_no_override hel).mp htr
  exact ⟨next, hnext, hslot⟩

/-- Such a tick, once the transition is due, enters the successor at the tick's clock word. -/
theorem enters_successor_of_due
    (hdue : due p (m.pins c).presenceN (clockWord m.now - (s.slot c).entered).toNat) :
    (t.slot c).phase = (successor p).code ∧ (t.slot c).entered = clockWord m.now := by
  obtain ⟨next, ⟨-, rfl⟩ | ⟨hno, -⟩, hslot⟩ := slot_after_ownPhase hq hm hstep hp hf hel
  · rw [hslot]
    exact ⟨rfl, rfl⟩
  · exact absurd hdue hno

/-- Such a tick, before the transition is due, leaves phase and timer base. -/
theorem keeps_phase_of_not_due
    (hno : ¬ due p (m.pins c).presenceN (clockWord m.now - (s.slot c).entered).toNat) :
    (t.slot c).phase = p.code ∧ (t.slot c).entered = (s.slot c).entered := by
  obtain ⟨next, ⟨hdue, -⟩ | ⟨-, rfl⟩, hslot⟩ := slot_after_ownPhase hq hm hstep hp hf hel
  · exact absurd hdue hno
  · rw [hslot]
    exact ⟨rfl, rfl⟩

end

end Sys2Proof.Machine
end

section

open Sys2Proof Sys2Proof.Machine Sys2Proof.Safety

/-- Settles O55: the rails before the tick are among those the phase can hold, and the rails after it are the phase's own
row, which overlaps each of them. -/
theorem railWalkNeverDropsPower : Obligations.RailWalkNeverDropsPower := by
  intro s t m rest c p hrails hq hm hstep hp hseq hf hel
  obtain ⟨next, -, hslot⟩ := slot_after_ownPhase hq hm hstep hp hf (.inr hel)
  have hheld := (railsFit_eq_true_iff hp).mp (railsFollow_iff.mp hrails c)
  rw [hslot]
  exact railPairs_seq_overlap hseq hheld s.cfg (clockWord m.now)

/-- Settles O42: before the global timeout the tick runs the phase's own logic, which moves on exactly when the true time
since entry has reached the dwell. -/
theorem dwellEndsAtTheFirstTickAfterItsDeadline : Obligations.DwellEndsAtTheFirstTickAfterItsDeadline := by
  intro s t m rest c p te hq hm hstep hp hseq hentered hle hf
  have htrue (hlt : m.now < te + 5000) : (clockWord m.now - (s.slot c).entered).toNat = m.now - te := by
    rw [hentered]
    exact toNat_clockWord_sub hle (by omega)
  refine ⟨fun hbefore => ?_, fun hafter hlt => ?_⟩
  · have hel := htrue (by omega)
    have hno : ¬ due p (m.pins c).presenceN (clockWord m.now - (s.slot c).entered).toNat := by
      rw [due_of_mem_seq hseq]
      omega
    rw [← hentered]
    exact keeps_phase_of_not_due hq hm hstep hp hf (.inr (by omega)) hno
  · have hel := htrue hlt
    have hdue : due p (m.pins c).presenceN (clockWord m.now - (s.slot c).entered).toNat := by
      rw [due_of_mem_seq hseq]
      omega
    exact enters_successor_of_due hq hm hstep hp hf (.inr (by omega)) hdue

/-- Settles O21: with no override `SEQ_BOTH_1` runs its own row, which drives both rails and tests the dwell. -/
theorem seqBoth1DwellsWithBothRails : Obligations.SeqBoth1DwellsWithBothRails :=
  ⟨fun _ _ hr hf hp hel => fetch_of_no_override (p := .seqBoth1) hr hf hp (.inr hel),
    fun s => congrArg _ (runPhase_whenDwell .seqBoth1 .seqBatteryOnly 500 s)⟩

/-- Settles O22: with no override `SEQ_BATTERY_ONLY` runs its own row, which drives the battery rail and tests the dwell. -/
theorem seqBatteryOnlyDwellsOnBattery : Obligations.SeqBatteryOnlyDwellsOnBattery :=
  ⟨fun _ _ hr hf hp hel => fetch_of_no_override (p := .seqBatteryOnly) hr hf hp (.inr hel),
    fun s => congrArg _ (runPhase_whenDwell .seqBatteryOnly .seqBoth2 500 s)⟩

/-- Settles O23: with no override `SEQ_BOTH_2` runs its own row, which drives both rails and tests the dwell. -/
theorem seqBoth2DwellsWithBothRails : Obligations.SeqBoth2DwellsWithBothRails :=
  ⟨fun _ _ hr hf hp hel => fetch_of_no_override (p := .seqBoth2) hr hf hp (.inr hel),
    fun s => congrArg _ (runPhase_whenDwell .seqBoth2 .seqBusOnly 500 s)⟩

/-- Settles O24: with no override `SEQ_BUS_ONLY` runs its own row, which drives the bus rail and tests the dwell. -/
theorem seqBusOnlyDwellsOnBus : Obligations.SeqBusOnlyDwellsOnBus :=
  ⟨fun _ _ hr hf hp hel => fetch_of_no_override (p := .seqBusOnly) hr hf hp (.inr hel),
    fun s => congrArg _ (runPhase_whenDwell .seqBusOnly .waitHighAgain 500 s)⟩

end

section
/-! SUPPORT. The indicate phases and the reserved codes (R90 to R93): when a reserved row is fetched, what both indicate
phases have in common, and the run from an indicate phase back to `WAIT_LOW`. -/

namespace Sys2Proof.Machine

open Sys2Proof.Safety

/-! ### The reserved rows (R93) -/

/-- The codes whose rows are the reserved ones (R53). -/
theorem decodePhaseRow_reserved_iff (p : PhaseCode) :
    ((∃ b, decodePhaseRow p = .rsvPhaseAB b) ∨ ∃ b, decodePhaseRow p = .rsvPhaseCF b) ↔ 10 ≤ p.toNat := by
  revert p; decide

/-- Without the reset event, a slot fetches a reserved row exactly when its step raises `ILLEGAL_PHASE` (R93, R119). -/
theorem fetch_reserved_iff_raisesMark {s : State} {c : SlotId} (hr : s.inp.reset = false) :
    ((∃ b, fetch s c = .rsvPhaseAB b) ∨ ∃ b, fetch s c = .rsvPhaseCF b) ↔ RaisesMark s c := by
  rw [fetch_eq, hr, if_neg Bool.false_ne_true, RaisesMark, ← faulted_eq_false]
  cases faulted s c with
  | true => simp
  | false =>
    cases ht : timeoutCond s c with
    | true =>
      obtain ⟨-, hel⟩ := (timeoutCond_eq_true s c).mp ht
      simp [Nat.not_lt.mpr hel]
    | false =>
      simp only [Bool.false_eq_true, if_false, decodePhaseRow_reserved_iff, true_and]
      refine (and_iff_left_of_imp fun hres => ?_).symm
      refine ((timeoutCond_eq_false s c).mp ht).resolve_left fun hwait => ?_
      rw [hwait] at hres
      exact absurd hres (by decide)

/-! ### The phase of an error class (R90, R91, R111) -/

/-- An indicate phase waits for its dwell alone. -/
theorem due_indicatePhase (e : ErrorClass) (presence : Level) (el : Nat) :
    due (indicatePhase e) presence el ↔ 2000 ≤ el := by cases e <;> rfl

/-- Both indicate phases end in `WAIT_LOW`, never in the phase that was preempted (R116). -/
theorem successor_indicatePhase (e : ErrorClass) : successor (indicatePhase e) = .waitLow := by cases e <;> rfl

/-- Both indicate phases drive both rails off (R103). -/
theorem out_indicatePhase_rails (cfg : Configuration) (e : ErrorClass) (t : Time) :
    (out cfg (indicatePhase e) t).bat = false ∧ (out cfg (indicatePhase e) t).bus = false := by
  cases e <;> exact ⟨rfl, rfl⟩

/-! ### Recovery (R92) -/

/-- A plain tick that the step serves has a clock that has not gone back, leaves the rest of the queue, and is the last clock
sample after it (R136). -/
theorem clock_of_plainTick {s t : State} {m : Moment} {rest : List Event} (hq : s.queue = .moment m :: rest)
    (hm : plainTick m = true) (h : step s = .next t) : s.lastNow ≤ m.now ∧ t.queue = rest ∧ t.lastNow = m.now := by
  obtain ⟨-, -, -, hqueue, hnow, -⟩ := tickWritesAndDisplaysOneFrame s t m rest hq hm h
  rw [step_plainTick hq hm, tickEvent_eq_next, clockRefusal_eq_none] at h
  obtain ⟨⟨hle, -⟩, -⟩ := h
  exact ⟨hle, hqueue, hnow⟩

/-- Slot `c` holds the indicate phase of `e`, entered at true time `te`, which the clock has reached. -/
structure Indicates (c : SlotId) (e : ErrorClass) (te : Nat) (s : State) : Prop where
  phase   : (s.slot c).phase = (indicatePhase e).code
  entered : (s.slot c).entered = clockWord te
  reached : te ≤ s.lastNow

namespace Indicates

variable {s t : State} {m : Moment} {rest : List Event} {c : SlotId} {e : ErrorClass} {te : Nat}

/-- Before the global timeout, the elapsed time is the true time since the entry (R62). -/
theorem toNat_elapsed (hs : Indicates c e te s) {now : Nat} (hle : te ≤ now) (hlt : now < te + 5000) :
    (clockWord now - (s.slot c).entered).toNat = now - te := by
  rw [hs.entered]
  exact toNat_clockWord_sub hle (by omega)

/-- A tick less than 2000 ms after the entry, with no fault, leaves the slot indicating from the same time. -/
theorem after_early_tick (hs : Indicates c e te s) (hq : s.queue = .moment m :: rest) (hm : plainTick m = true)
    (hf : (m.pins c).faultN = .high) (hearly : m.now < te + 2000) (h : step s = .next t) : Indicates c e te t := by
  obtain ⟨hle, -, hnow⟩ := clock_of_plainTick hq hm h
  have hreached : te ≤ m.now := hs.reached.trans hle
  have hel := hs.toNat_elapsed hreached (by omega)
  have hno : ¬ due (indicatePhase e) (m.pins c).presenceN (clockWord m.now - (s.slot c).entered).toNat := by
    rw [due_indicatePhase]
    omega
  obtain ⟨hphase, hentered⟩ := keeps_phase_of_not_due hq hm h hs.phase hf (.inr (by omega)) hno
  exact ⟨hphase, hentered.trans hs.entered, hnow ▸ hreached⟩

/-- A tick 2000 ms or more after the entry and before the global timeout, with no fault, puts the slot in `WAIT_LOW` with
both rails off. -/
theorem after_deadline_tick (hs : Indicates c e te s) (hq : s.queue = .moment m :: rest) (hm : plainTick m = true)
    (hf : (m.pins c).faultN = .high) (hlate : te + 2000 ≤ m.now) (hlt : m.now < te + 5000) (h : step s = .next t) :
    (t.slot c).phase = Phase.waitLow.code ∧ (t.slot c).entered = clockWord m.now ∧
      (t.slot c).batEn = false ∧ (t.slot c).busEn = false := by
  have hel := hs.toNat_elapsed (now := m.now) (by omega) hlt
  have hlim : indicatePhase e = .waitLow ∨ (clockWord m.now - (s.slot c).entered).toNat < 5000 := .inr (by omega)
  have hdue : due (indicatePhase e) (m.pins c).presenceN (clockWord m.now - (s.slot c).entered).toNat := by
    rw [due_indicatePhase]
    omega
  obtain ⟨hphase, hentered⟩ := enters_successor_of_due hq hm h hs.phase hf hlim hdue
  rw [successor_indicatePhase] at hphase
  obtain ⟨next, -, hslot⟩ := slot_after_ownPhase hq hm h hs.phase hf hlim
  refine ⟨hphase, hentered, ?_⟩
  rw [hslot]
  exact out_indicatePhase_rails ..

/-- The run through the ticks `ms` before the deadline and the first tick `m` after it ends in `WAIT_LOW`, both rails off. -/
theorem returns_to_waitLow {ms : List Moment} (hs : Indicates c e te s)
    (hq : s.queue = (ms ++ [m]).map Event.moment ++ rest)
    (hticks : ∀ x ∈ ms ++ [m], plainTick x = true ∧ (x.pins c).faultN = .high) (hearly : ∀ x ∈ ms, x.now < te + 2000)
    (hlate : te + 2000 ≤ m.now) (hlt : m.now < te + 5000) (hrun : runFor (ms.length + 1) s = .next t) :
    t.queue = rest ∧ (t.slot c).phase = Phase.waitLow.code ∧ (t.slot c).entered = clockWord m.now ∧
      (t.slot c).batEn = false ∧ (t.slot c).busEn = false := by
  induction ms generalizing s with
  | nil =>
    obtain ⟨_, hstep, hend⟩ := runFor_succ_eq_next.mp hrun
    cases hend
    obtain ⟨hm, hf⟩ := hticks m (List.mem_singleton_self m)
    obtain ⟨-, hqueue, -⟩ := clock_of_plainTick hq hm hstep
    exact ⟨hqueue, hs.after_deadline_tick hq hm hf hlate hlt hstep⟩
  | cons x ms ih =>
    obtain ⟨u, hstep, hrest⟩ := runFor_succ_eq_next.mp hrun
    obtain ⟨⟨hx, hf⟩, hticks⟩ := List.forall_mem_cons.mp hticks
    obtain ⟨hxearly, hearly⟩ := List.forall_mem_cons.mp hearly
    obtain ⟨-, hqueue, -⟩ := clock_of_plainTick hq hx hstep
    exact ih (hs.after_early_tick hq hx hf hxearly hstep) hqueue hticks hearly hrest

end Indicates

/-- A tick on a slot in `WAIT_LOW` with no fault drives the bus rail alone, at any elapsed time (R70, R103). -/
theorem rails_after_waitLow_tick {s t : State} {m : Moment} {rest : List Event} {c : SlotId}
    (hq : s.queue = .moment m :: rest) (hm : plainTick m = true) (hf : (m.pins c).faultN = .high)
    (hp : (s.slot c).phase = Phase.waitLow.code) (h : step s = .next t) :
    (t.slot c).batEn = false ∧ (t.slot c).busEn = true := by
  obtain ⟨next, -, hslot⟩ := slot_after_ownPhase hq hm h hp hf (.inl rfl)
  rw [hslot]
  exact ⟨rfl, rfl⟩

end Sys2Proof.Machine
end

section

open Sys2Proof Sys2Proof.Machine Sys2Proof.Safety

/-- Settles O58: the ticks before the deadline leave the slot indicating (induction over them), the deadline tick comes less
than 4000 ms after the entry, so before the global timeout, and the tick after it runs `WAIT_LOW`. -/
theorem recoveryReturnsToIdle : Obligations.RecoveryReturnsToIdle := by
  intro s t u ms m n rest c te hphase hentered hreached hbefore hq hticks hearly hlate hgap hrun hstep
  obtain ⟨e, he⟩ : ∃ e, (s.slot c).phase = (indicatePhase e).code := hphase.elim (⟨.fault, ·⟩) (⟨.timeout, ·⟩)
  have hlast : (ms.map Moment.now).getLast?.getD s.lastNow < te + 2000 := by
    rw [List.getLast?_map]
    cases hl : ms.getLast? with
    | none => exact hbefore
    | some x => exact hearly x (List.mem_of_getLast? hl)
  rw [List.append_cons ms m [n]] at hq hticks
  rw [List.map_append, List.append_assoc] at hq
  obtain ⟨hrecovery, hnext⟩ := List.forall_mem_append.mp hticks
  obtain ⟨hqueue, hidle, hrest⟩ := Indicates.returns_to_waitLow ⟨he, hentered, hreached⟩ hq hrecovery hearly hlate
    (by omega) hrun
  obtain ⟨hn, hf⟩ := hnext n (List.mem_singleton_self n)
  exact ⟨⟨hidle, hrest⟩, rails_after_waitLow_tick hqueue hn hf hidle hstep⟩

/-- Settles O27: a reserved row is fetched exactly when the slot's step raises the mark, and either row is that raise. -/
theorem reservedPhaseMarksAndWritesNothing : Obligations.ReservedPhaseMarksAndWritesNothing :=
  ⟨fun _ _ hr => fetch_reserved_iff_raisesMark hr, fun s _ => exec_of_reserved (.inl rfl) s,
    fun s _ => exec_of_reserved (.inr rfl) s⟩

/-- Settles O25: with no override `FAULT_INDICATE` runs its own row, which drives both rails off and tests the dwell; a low
fault line preempts that row and enters the phase again. -/
theorem faultIndicateReturnsAfterItsDwell : Obligations.FaultIndicateReturnsAfterItsDwell := by
  refine ⟨fun s c hr hf hp hel => fetch_of_no_override (p := .faultIndicate) hr hf hp (.inr hel),
    fun s c hr hf _ => ⟨⟨_, _, fetch_of_fault hr hf⟩, _, slotStep_of_fault hr hf, ?_⟩, fun s => ?_⟩
  · have hslot : (takeError .fault (s.atSlot c)).slot c = _ := takeError_slot .fault (s.atSlot c)
    rw [hslot]
    exact ⟨rfl, rfl⟩
  · rw [← flash_eq]
    exact congrArg _ (runPhase_whenDwell .faultIndicate .waitLow 2000 s)

/-- Settles O26: with no override `TIMEOUT_INDICATE` runs its own row, which drives both rails off and tests the dwell. -/
theorem timeoutIndicateReturnsAfterItsDwell : Obligations.TimeoutIndicateReturnsAfterItsDwell := by
  refine ⟨fun s c hr hf hp hel => fetch_of_no_override (p := .timeoutIndicate) hr hf hp (.inr hel), fun s => ?_⟩
  rw [← flash_eq]
  exact congrArg _ (runPhase_whenDwell .timeoutIndicate .waitLow 2000 s)

end

section

namespace Sys2Proof.Machine

/-! ### The flash color and the second indicator (44_status_colors.md R102 to R104) -/

/-- The flash color is a function of the clock word's place in the flash period (R102). -/
theorem flash_eq_of_same_place (cfg : Configuration) {t u : Time} (h : t.toNat % 200 = u.toNat % 200) :
    flash cfg t = flash cfg u := by
  rw [flash_eq, flash_eq, h]

/-- One flash period later, short of a wrap, the clock word is at the same place in its period. -/
theorem add_flashPeriod_toNat_mod {t : Time} (h : t.toNat + 200 < 2 ^ 32) :
    (t + 200#32).toNat % 200 = t.toNat % 200 := by
  have hadd : (t + 200#32).toNat = t.toNat + 200 := BitVec.toNat_add_of_lt h
  rw [hadd, Nat.add_mod_right]

/-- A phase that does not set both indicators leaves indicator 1 dark (R104). -/
theorem out_c1_eq_off (cfg : Configuration) {p : Phase} (t : Time) (hidle : p ≠ .waitLow)
    (hfault : p ≠ .faultIndicate) : (out cfg p t).c1 = Config.off := by
  cases p with
  | waitLow => exact absurd rfl hidle
  | faultIndicate => exact absurd rfl hfault
  | _ => rfl

end Sys2Proof.Machine
end

section

open Sys2Proof Sys2Proof.Machine

/-- Settles O11: the lit and dark ranges are the two branches of the flash color, and a period later the clock word is at the
same place. -/
theorem flashFollowsTheClockWord : Obligations.FlashFollowsTheClockWord := by
  refine fun cfg t => ⟨fun hlit => ?_, fun hdark => ?_, fun hwrap => ?_⟩
  · rw [flash_eq, if_pos hlit]
  · rw [flash_eq, if_neg hdark.not_ge]
  · exact flash_eq_of_same_place cfg (add_flashPeriod_toNat_mod hwrap)

/-- Settles O12: with the flash color written as `flash`, each row is the table's own. -/
theorem outputTable : Obligations.OutputTable := by
  intro cfg t
  rw [← flash_eq]
  exact ⟨rfl, rfl, rfl, rfl, rfl, rfl, rfl, rfl, rfl, rfl⟩

/-- Settles O13: every phase but the two that set both indicators leaves indicator 1 dark; those two set both alike. -/
theorem indicatorOneIsOffByDefault : Obligations.IndicatorOneIsOffByDefault := by
  refine fun cfg p t => ⟨out_c1_eq_off cfg t, ?_, ?_⟩
  · rintro rfl
    exact ⟨rfl, rfl⟩
  · rintro rfl
    exact ⟨rfl, rfl⟩

end

section
/-! SUPPORT. A moment with no event (R125), and what keeps the mark clear (R119). -/

namespace Sys2Proof.Machine

open Sys2Proof.Safety

/-- With nothing pending the step holds the state (R125). -/
theorem step_of_queue_nil {s : State} (hq : s.queue = []) : step s = .next s := by
  simp [step, eventStep, hq]

/-- A moment with neither event is taken off the queue, and the block holds its state (R125). -/
theorem step_quiet {s : State} {m : Moment} {rest : List Event} (hq : s.queue = .moment m :: rest)
    (hreset : m.reset = false) (htick : m.tick = false) : step s = .next { s with queue := rest } := by
  simp [step, eventStep, hq, momentStep, hreset, htick]

/-- A slot with a legal code never raises `ILLEGAL_PHASE` (R22, R93). -/
theorem not_raisesMark_of_legalCode {s : State} {c : SlotId} (h : legalCode (s.slot c).phase = true) :
    ¬ RaisesMark s c := by
  rintro ⟨hreserved, -, -⟩
  rw [legalCode, (Phase.ofCode_none_iff _).mpr hreserved] at h
  cases h

/-- A step from legal phases does not set the mark: a tick sets it only from a reserved code, and RESET clears it (R119, R130). -/
theorem step_faultMark_of_legalPhases {s t : State} (hlegal : LegalPhases s) (hmark : s.faultMark = false)
    (h : step s = .next t) : t.faultMark = false := by
  obtain ⟨-, rfl⟩ | ⟨m, rest, hq, ⟨-, rfl⟩ | ⟨hm, -⟩ | ⟨-, -, rfl⟩⟩ := step_cases h
  · exact hmark
  · rfl
  · rw [← Bool.not_eq_true, faultMark_after_plainTick hq hm h]
    rintro (hset | ⟨c, hraise⟩)
    · cases hmark.symm.trans hset
    · exact not_raisesMark_of_legalCode (by simpa using legalPhases_iff.mp hlegal c) hraise
  · exact hmark

end Sys2Proof.Machine
end

section

open Sys2Proof Sys2Proof.Machine Sys2Proof.Safety

/-- Settles O46: the legal phases are kept by every step (O45), and a step from them does not set the mark. -/
theorem stepKeepsTheMarkClear : Obligations.StepKeepsTheMarkClear :=
  fun s t ⟨hmark, hlegal⟩ h => ⟨step_faultMark_of_legalPhases hlegal hmark h, stepKeepsLegalPhases s t hlegal h⟩

/-- Settles O39: a slot after a tick is what its own step makes of the tick's samples, and on a low fault line that step takes
the Fault class, whatever the slot held. -/
theorem faultTakesPrecedence : Obligations.FaultTakesPrecedence := by
  intro s t m rest c hq hm h hline
  obtain ⟨a, ha, hta⟩ := slot_after_plainTick hq hm h c
  have hr : (State.sample { s with queue := rest } m).inp.reset = false := (plainTick_eq_true.mp hm).2
  have hf : (State.sample { s with queue := rest } m).faultLine c = .low := by simpa using hline
  cases (slotStep_of_fault hr hf).symm.trans ha
  rw [hta, takeError_fault, State.atSlot_cur, State.slot_setSlot_same]
  rfl

/-- Settles O36: nothing pending, and a moment with neither event. -/
theorem blockHoldsItsStateBetweenEvents : Obligations.BlockHoldsItsStateBetweenEvents :=
  ⟨fun _ => step_of_queue_nil, fun _ _ _ => step_quiet⟩

end

section
/-! SUPPORT. RESET as a row and as an event (R130), the events that the step refuses (R136, R140), and the host's contract
along a run. -/

namespace Sys2Proof.Machine

open Sys2Proof.Safety

/-! ### RESET (R130) -/

/-- The row RESET is RESET of the block, whatever the selector bits it ignores. -/
theorem exec_of_reset {i : Instr} (h : i.mnemonic = "RESET") (s : State) : exec i s = .next (resetBlock s) := by
  obtain ⟨_, _, _, -, hreset⟩ | ⟨hne, -⟩ | ⟨hres, -⟩ := exec_cases i s
  · exact hreset
  · exact absurd h hne
  · simp [h] at hres

/-- With the reset event sampled, every slot fetches RESET (R53). -/
theorem fetch_of_reset {s : State} (hr : s.inp.reset = true) (c : SlotId) :
    fetch s c = .reset (faulted s c) (timeoutCond s c) (s.slot c).phase := by
  rw [fetch_eq, if_pos hr]

/-- A reset event whose clock has not gone back runs slot 0's step on the samples (log entry 15). -/
theorem resetEvent_of_le {s : State} {m : Moment} (hle : s.lastNow ≤ m.now) :
    resetEvent m s = slotStep .slot0 (s.sample m) := by
  rw [resetEvent, clockDecreases_eq_false.mpr hle, if_neg Bool.false_ne_true]

/-- So does the step that serves it. -/
theorem step_reset_eq_slotStep {s : State} {m : Moment} {rest : List Event} (hq : s.queue = .moment m :: rest)
    (hm : m.reset = true) (hle : s.lastNow ≤ m.now) :
    step s = slotStep .slot0 (State.sample { s with queue := rest } m) :=
  (step_reset hq hm).trans (resetEvent_of_le hle)

/-- Such a step is RESET of the block at the event's samples. -/
theorem step_eq_resetBlock {s : State} {m : Moment} {rest : List Event} (hq : s.queue = .moment m :: rest)
    (hm : m.reset = true) (hle : s.lastNow ≤ m.now) :
    step s = .next (resetBlock ((State.sample { s with queue := rest } m).atSlot .slot0)) :=
  (step_reset_eq_slotStep hq hm hle).trans (slotStep_reset .slot0 hm)

/-- After RESET a slot is in `WAIT_LOW`, and both rails off is a pair that phase can hold (R33, R130). -/
theorem railsFit_afterReset (now : Time) : railsFit (Slot.afterReset now) = true :=
  (railsFit_eq_true_iff (p := .waitLow) rfl).mpr (by simp [railPairs, Slot.afterReset])

/-! ### The refusals (R136, R140) -/

/-- After sampling, a tick always answers a next state. -/
theorem tickBody_eq_next (s : State) : ∃ t, tickBody s = .next t := by
  obtain ⟨a, ha⟩ := exec_eq_next (fetch s .slot0) (s.atSlot .slot0)
  obtain ⟨b, hb⟩ := exec_eq_next (fetch a .slot1) (a.atSlot .slot1)
  exact ⟨handFrame b, andThen_eq_next.mpr ⟨a, ha, andThen_eq_next.mpr ⟨b, hb, rfl⟩⟩⟩

/-- A tick is refused exactly when its clock is. -/
theorem tickEvent_eq_refused {m : Moment} {s : State} {r : Refusal} :
    tickEvent m s = .refused r ↔ clockRefusal m.now s = some r := by
  unfold tickEvent
  cases clockRefusal m.now s with
  | some r' => simp
  | none =>
    obtain ⟨t, ht⟩ := tickBody_eq_next (s.sample m)
    simp [ht]

/-- A reset event is refused exactly when its clock has gone back. -/
theorem resetEvent_eq_refused {m : Moment} {s : State} {r : Refusal} :
    resetEvent m s = .refused r ↔ r = .clockDecreased ∧ m.now < s.lastNow := by
  obtain hlt | hle := Nat.lt_or_ge m.now s.lastNow
  · rw [resetEvent, if_pos (clockDecreases_eq_true.mpr hlt)]
    simp [hlt, eq_comm]
  · obtain ⟨t, ht⟩ := exec_eq_next (fetch (s.sample m) .slot0) ((s.sample m).atSlot .slot0)
    rw [resetEvent_of_le hle, slotStep, ht]
    simp [Nat.not_lt.mpr hle]

/-- A moment is refused exactly on a reset or tick whose clock has gone back, and on a plain tick after too long a gap. -/
theorem momentStep_eq_refused {m : Moment} {s : State} {r : Refusal} :
    momentStep m s = .refused r ↔
      (r = .clockDecreased ∧ (m.reset = true ∨ m.tick = true) ∧ m.now < s.lastNow) ∨
        (r = .tickGapTooLong ∧ plainTick m = true ∧ s.lastNow ≤ m.now ∧ gapTooLong m.now s = true) := by
  rw [plainTick_eq_true]
  unfold momentStep
  split_ifs with hreset htick
  · simp [resetEvent_eq_refused, hreset]
  · simp [tickEvent_eq_refused, clockRefusal_eq_some, hreset, htick]
  · simp [hreset, htick]

/-- A step that serves a moment is that moment's step on the rest of the queue. -/
theorem step_moment {s : State} {m : Moment} {rest : List Event} (hq : s.queue = .moment m :: rest) :
    step s = momentStep m { s with queue := rest } := by
  simp [step, eventStep, hq]

theorem step_portFailure {s : State} {rest : List Event} (hq : s.queue = .portFailure :: rest) :
    step s = .refused .portFailure := by
  simp [step, eventStep, hq]

theorem step_consoleWrite {s : State} {rest : List Event} (hq : s.queue = .consoleWrite :: rest) :
    step s = .refused .consoleWrite := by
  simp [step, eventStep, hq]

/-! ### The host's contract (R136, R140) -/

/-- The contract's gap duty is the one that the tick's clock check refuses on. -/
theorem gapFits_iff {s : State} {t : Nat} : gapFits s.lastTick t = true ↔ gapTooLong t s = false := by
  unfold gapTooLong
  cases s.lastTick with
  | none => simp [gapFits]
  | some u => simp [gapFits, Config.tickGapLimit]

section

variable {last : Nat} {lastTick : Option Nat} {m : Moment} {rest : List Event}

theorem honours_reset (hm : m.reset = true) :
    honours last lastTick (.moment m :: rest) = true ↔ last ≤ m.now ∧ honours m.now lastTick rest = true := by
  simp [honours, hm]

theorem honours_plainTick (hm : plainTick m = true) :
    honours last lastTick (.moment m :: rest) = true ↔
      last ≤ m.now ∧ gapFits lastTick m.now = true ∧ honours m.now (some m.now) rest = true := by
  obtain ⟨htick, hreset⟩ := plainTick_eq_true.mp hm
  simp [honours, htick, hreset, and_assoc]

theorem honours_quiet (hreset : m.reset = false) (htick : m.tick = false) :
    honours last lastTick (.moment m :: rest) = honours last lastTick rest := by
  simp [honours, hreset, htick]

end

/-- While the pending events keep the contract, the step answers a next state, and the events left keep it from there. -/
theorem step_honours {s : State} (h : honours s.lastNow s.lastTick s.queue = true) :
    ∃ t, step s = .next t ∧ honours t.lastNow t.lastTick t.queue = true := by
  cases hq : s.queue with
  | nil => exact ⟨s, step_of_queue_nil hq, h⟩
  | cons e rest =>
    rw [hq] at h
    cases e with
    | portFailure | consoleWrite => cases h
    | moment m =>
      cases hreset : m.reset with
      | true =>
        obtain ⟨hle, hrest⟩ := (honours_reset hreset).mp h
        exact ⟨_, step_eq_resetBlock hq hreset hle, by simpa [hreset] using hrest⟩
      | false =>
        cases htick : m.tick with
        | true =>
          have hm : plainTick m = true := plainTick_eq_true.mpr ⟨htick, hreset⟩
          obtain ⟨hle, hgap, hrest⟩ := (honours_plainTick hm).mp h
          have hclock : clockRefusal m.now { s with queue := rest } = none :=
            clockRefusal_eq_none.mpr ⟨hle, gapFits_iff.mp hgap⟩
          obtain ⟨t, ht⟩ := momentStep_eq_next hclock
          rw [← step_moment hq] at ht
          obtain ⟨-, -, -, hqueue, hnow, hlast⟩ := tickWritesAndDisplaysOneFrame s t m rest hq hm ht
          exact ⟨t, ht, by rwa [hqueue, hnow, hlast]⟩
        | false => exact ⟨_, step_quiet hq hreset htick, (honours_quiet hreset htick).symm.trans h⟩

/-! ### Runs through moments (R133) -/

/-- A run that serves the moments `ms` and then `m` ends with the step that serves `m`. -/
theorem last_step_of_run {s t : State} {ms : List Moment} {m : Moment} {rest : List Event}
    (hq : s.queue = (ms ++ [m]).map Event.moment ++ rest) (hrun : runFor (ms.length + 1) s = .next t) :
    ∃ v, v.queue = .moment m :: rest ∧ step v = .next t := by
  induction ms generalizing s with
  | nil =>
    obtain ⟨_, hstep, hend⟩ := runFor_succ_eq_next.mp hrun
    cases hend
    exact ⟨s, hq, hstep⟩
  | cons x ms ih =>
    obtain ⟨u, hstep, hrest⟩ := runFor_succ_eq_next.mp hrun
    exact ih (by rw [step_queue hstep, hq]; rfl) hrest

end Sys2Proof.Machine
end

section

open Sys2Proof Sys2Proof.Machine Sys2Proof.Safety

/-- Settles O44: a step under the contract answers a next state and keeps the contract; by induction on the number of
steps. -/
theorem honouredRunNeverStops : Obligations.HonouredRunNeverStops := by
  intro s k
  induction k generalizing s with
  | zero => exact fun _ => ⟨s, rfl⟩
  | succ k ih =>
    intro h
    obtain ⟨u, hstep, hu⟩ := step_honours h
    obtain ⟨t, hrun⟩ := ih u hu
    exact ⟨t, runFor_succ_eq_next.mpr ⟨u, hstep, hrun⟩⟩

/-- Settles O57: the last fault tick takes the Fault class whatever the ticks before it left (O39), and from that entry the
slot recovers as from any indicate phase. -/
theorem sustainedFaultHoldsTheSlot : Obligations.SustainedFaultHoldsTheSlot := by
  intro s t u ms ns m x rest c hq hlow hhigh hearly hlate hlt hrun hrun'
  rw [List.map_append, List.append_assoc] at hq
  obtain ⟨v, hv, hstep⟩ := last_step_of_run hq hrun
  obtain ⟨hm, hf⟩ := hlow m (by simp)
  have hslot := faultTakesPrecedence v t m _ c hv hm hstep hf
  obtain ⟨-, hqueue, hnow⟩ := clock_of_plainTick hv hm hstep
  have hheld : Indicates c .fault m.now t := ⟨by rw [hslot]; rfl, by rw [hslot], hnow.ge⟩
  obtain ⟨-, hphase, hentered, hbat, hbus⟩ := hheld.returns_to_waitLow hqueue hhigh hearly hlate hlt hrun'
  exact ⟨by simp [hslot], hphase, hbat, hbus, hentered⟩

/-- Settles O30: RESET is RESET of the block and a reserved row is the mark, and neither reaches the other fields. -/
theorem resetAndReservedRowsFrame : Obligations.ResetAndReservedRowsFrame := by
  intro i s t h
  refine ⟨fun hreset => ?_, fun hres => ?_⟩
  · cases (exec_of_reset hreset s).symm.trans h
    simp
  · cases (exec_of_reserved hres s).symm.trans h
    simp

/-- Settles O41: each of the two ticks runs the own row of the phase held before it, and the configuration is kept between
them. -/
theorem outputsLagOneTick : Obligations.OutputsLagOneTick := by
  intro s t u m n rest c p q hq hm hn hstep hstep' hp hp' hf hel hf' hel'
  have hqueue : t.queue = .moment n :: rest := by rw [step_queue hstep, hq]; rfl
  obtain ⟨_, -, hslot⟩ := slot_after_ownPhase hq hm hstep hp hf hel
  obtain ⟨_, -, hslot'⟩ := slot_after_ownPhase hqueue hn hstep' hp' hf' hel'
  rw [step_cfg hstep] at hslot'
  rw [hslot, hslot']
  exact ⟨⟨rfl, rfl, rfl, rfl⟩, rfl, rfl, rfl, rfl⟩

/-- Settles O43, by the next event: with none pending nothing is refused, a failed access and a console write always are, and
a moment is refused on its clock. -/
theorem stepRefusesOnlyOutOfContractEvents : Obligations.StepRefusesOnlyOutOfContractEvents := by
  intro s r
  cases hq : s.queue with
  | nil => simp [step_of_queue_nil hq]
  | cons e rest =>
    cases e with
    | portFailure => simpa [step_portFailure hq] using eq_comm
    | consoleWrite => simpa [step_consoleWrite hq] using eq_comm
    | moment m => simp [step_moment hq, momentStep_eq_refused, gapTooLong_eq_true]

/-- Settles O28: with the reset event every slot fetches RESET, and the row is RESET of the block, by definition. -/
theorem resetPutsBothSlotsInIdle : Obligations.ResetPutsBothSlotsInIdle :=
  ⟨fun _ c hr => ⟨_, _, _, fetch_of_reset hr c⟩, fun _ _ _ _ => rfl⟩

/-- Settles O33: the step is slot 0's step on the samples, and with the reset event sampled slot 0 fetches RESET. -/
theorem resetMomentRunsResetAlone : Obligations.ResetMomentRunsResetAlone := by
  intro s m rest hq hm hle
  have hfetch := fetch_of_reset (s := State.sample { s with queue := rest } m) hm .slot0
  refine ⟨_, _, _, decode_selector_iff.mpr hfetch, ?_⟩
  rw [step_reset_eq_slotStep hq hm hle, slotStep, hfetch]

/-- Settles O34: the step is RESET of the block at the event's samples. -/
theorem resetEventLeavesTheResetState : Obligations.ResetEventLeavesTheResetState := by
  intro s m rest hq hm hle
  refine ⟨_, step_eq_resetBlock hq hm hle, fun c => resetBlock_slot _ c, ?_⟩
  simp [hm, Frame.allOff]

/-- Settles O35: both slots are the slot after a RESET that sampled 0. -/
theorem machineStartsInTheResetState : Obligations.MachineStartsInTheResetState := by
  refine ⟨fun c => ?_, rfl, rfl, rfl⟩
  cases c <;> rfl

/-- Settles O49: the rails of a slot after RESET fit its phase, which is then a named one; the frame and all colors are
`OFF`. -/
theorem resetMeetsTheInvariants : Obligations.ResetMeetsTheInvariants := by
  have hlegal := legalCode_of_railsFit (railsFit_afterReset 0#32)
  exact ⟨⟨rfl, hlegal, hlegal⟩, rfl, railsFit_afterReset _, railsFit_afterReset _⟩

end
